-- ==== Sys2Proof/Word.lean ====
section
/-! DEFINITION. The word types of the machine (00_scope.md R9): a byte is u8, a word is u16.
Both are bit vectors, so arithmetic on them wraps modulo 2^8 and 2^16 (92 D23). -/

namespace Sys2Proof

/-- A byte, 0..255 (R9). -/
abbrev Byte := BitVec 8

/-- A 16-bit word, 0..65535 (R9): register pairs, SP, PC and addresses. -/
abbrev Word := BitVec 16

/-- A background or sprite colour index, 0..3 (60_exceptions.md R186). -/
abbrev ColourIndex := BitVec 2

end Sys2Proof
end

