-- ==== Sys2Proof/WellFormed.lean ====
section
/-! DEFINITION. When an instruction term is well formed. Every operand of every constructor ranges
over its whole type, so the only terms that spell no instruction are the excluded prefix and the
illegal bytes (30_encoding.md R81, R84), which have rows of their own in the table. -/

namespace Sys2Proof

/-- The excluded prefix 0xCB (44_system.md R164). -/
def Instr.isPrefixCb : Instr → Bool
  | .prefixCb => true
  | _ => false

/-- One of the eleven illegal bytes (30_encoding.md R81). -/
def Instr.isIllegal : Instr → Bool
  | .illegalD3
  | .illegalDB
  | .illegalDD
  | .illegalE3
  | .illegalE4
  | .illegalEB
  | .illegalEC
  | .illegalED
  | .illegalF4
  | .illegalFC
  | .illegalFD => true
  | _ => false

/-- The term spells an instruction: its opcode has an entry in the size table (30_encoding.md R79).
HALT and STOP have entries and are well formed; whether they execute is HALT_STOP_POLICY's. -/
def Instr.wellFormed (i : Instr) : Bool :=
  !i.isPrefixCb && !i.isIllegal

end Sys2Proof
end

