-- ==== Sys2Proof/Decode.lean ====
section
/-! DEFINITION. From bytes to instructions and back. The decode table is the grid of 30_encoding.md
R78, row by row as the spec prints it (row = high nibble, column = low nibble); the size table is that
of R79. decode is total on lists of bytes and rejects by name; encode is written from the same grid. -/

namespace Sys2Proof

/-- hi : lo, a word from two bytes, hi*256 + lo (00_scope.md R8; 10_state.md R18). -/
def wordOf (hi lo : Byte) : Word := BitVec.ofNat 16 (hi.toNat * 256 + lo.toNat)

/-- v[15:8]. -/
def hiByte (v : Word) : Byte := BitVec.ofNat 8 (v.toNat / 256)

/-- v[7:0]. -/
def loByte (v : Word) : Byte := BitVec.ofNat 8 (v.toNat % 256)

/-- What a table entry makes of the immediate bytes b1 (at pc+1) and b2 (at pc+2). -/
abbrev OpcodeEntry := Byte → Byte → Instr

/-- Format F1 (30_encoding.md R73): no immediate. -/
def f1 (i : Instr) : OpcodeEntry := fun _ _ => i

/-- Formats I8 and E8 (R73): the byte b1. -/
def i8 (i : Byte → Instr) : OpcodeEntry := fun b1 _ => i b1

/-- Format I16 (R73, R77): the word b2 : b1. -/
def i16 (i : Word → Instr) : OpcodeEntry := fun b1 b2 => i (wordOf b2 b1)

/-- Row 0x of R78. -/
def opcodeRow0 : List OpcodeEntry :=
  [ f1 .nop, i16 .ldBcN16, f1 .ldAtBcA, f1 .incBc,
    f1 .incB, f1 .decB, i8 .ldBN8, f1 .rlca,
    i16 .ldAtA16Sp, f1 .addHlBc, f1 .ldAAtBc, f1 .decBc,
    f1 .incC, f1 .decC, i8 .ldCN8, f1 .rrca ]

/-- Row 1x of R78. -/
def opcodeRow1 : List OpcodeEntry :=
  [ i8 .stop, i16 .ldDeN16, f1 .ldAtDeA, f1 .incDe,
    f1 .incD, f1 .decD, i8 .ldDN8, f1 .rla,
    i8 .jrE8, f1 .addHlDe, f1 .ldAAtDe, f1 .decDe,
    f1 .incE, f1 .decE, i8 .ldEN8, f1 .rra ]

/-- Row 2x of R78. -/
def opcodeRow2 : List OpcodeEntry :=
  [ i8 .jrNzE8, i16 .ldHlN16, f1 .ldAtHlIncA, f1 .incHl,
    f1 .incH, f1 .decH, i8 .ldHN8, f1 .daa,
    i8 .jrZE8, f1 .addHlHl, f1 .ldAAtHlInc, f1 .decHl,
    f1 .incL, f1 .decL, i8 .ldLN8, f1 .cpl ]

/-- Row 3x of R78. -/
def opcodeRow3 : List OpcodeEntry :=
  [ i8 .jrNcE8, i16 .ldSpN16, f1 .ldAtHlDecA, f1 .incSp,
    f1 .incAtHl, f1 .decAtHl, i8 .ldAtHlN8, f1 .scf,
    i8 .jrCE8, f1 .addHlSp, f1 .ldAAtHlDec, f1 .decSp,
    f1 .incA, f1 .decA, i8 .ldAN8, f1 .ccf ]

/-- Row 4x of R78. -/
def opcodeRow4 : List OpcodeEntry :=
  [ f1 .ldBB, f1 .ldBC, f1 .ldBD, f1 .ldBE,
    f1 .ldBH, f1 .ldBL, f1 .ldBAtHl, f1 .ldBA,
    f1 .ldCB, f1 .ldCC, f1 .ldCD, f1 .ldCE,
    f1 .ldCH, f1 .ldCL, f1 .ldCAtHl, f1 .ldCA ]

/-- Row 5x of R78. -/
def opcodeRow5 : List OpcodeEntry :=
  [ f1 .ldDB, f1 .ldDC, f1 .ldDD, f1 .ldDE,
    f1 .ldDH, f1 .ldDL, f1 .ldDAtHl, f1 .ldDA,
    f1 .ldEB, f1 .ldEC, f1 .ldED, f1 .ldEE,
    f1 .ldEH, f1 .ldEL, f1 .ldEAtHl, f1 .ldEA ]

/-- Row 6x of R78. -/
def opcodeRow6 : List OpcodeEntry :=
  [ f1 .ldHB, f1 .ldHC, f1 .ldHD, f1 .ldHE,
    f1 .ldHH, f1 .ldHL, f1 .ldHAtHl, f1 .ldHA,
    f1 .ldLB, f1 .ldLC, f1 .ldLD, f1 .ldLE,
    f1 .ldLH, f1 .ldLL, f1 .ldLAtHl, f1 .ldLA ]

/-- Row 7x of R78. -/
def opcodeRow7 : List OpcodeEntry :=
  [ f1 .ldAtHlB, f1 .ldAtHlC, f1 .ldAtHlD, f1 .ldAtHlE,
    f1 .ldAtHlH, f1 .ldAtHlL, f1 .halt, f1 .ldAtHlA,
    f1 .ldAB, f1 .ldAC, f1 .ldAD, f1 .ldAE,
    f1 .ldAH, f1 .ldAL, f1 .ldAAtHl, f1 .ldAA ]

/-- Row 8x of R78. -/
def opcodeRow8 : List OpcodeEntry :=
  [ f1 .addAB, f1 .addAC, f1 .addAD, f1 .addAE,
    f1 .addAH, f1 .addAL, f1 .addAAtHl, f1 .addAA,
    f1 .adcAB, f1 .adcAC, f1 .adcAD, f1 .adcAE,
    f1 .adcAH, f1 .adcAL, f1 .adcAAtHl, f1 .adcAA ]

/-- Row 9x of R78. -/
def opcodeRow9 : List OpcodeEntry :=
  [ f1 .subB, f1 .subC, f1 .subD, f1 .subE,
    f1 .subH, f1 .subL, f1 .subAtHl, f1 .subA,
    f1 .sbcAB, f1 .sbcAC, f1 .sbcAD, f1 .sbcAE,
    f1 .sbcAH, f1 .sbcAL, f1 .sbcAAtHl, f1 .sbcAA ]

/-- Row Ax of R78. -/
def opcodeRowA : List OpcodeEntry :=
  [ f1 .andB, f1 .andC, f1 .andD, f1 .andE,
    f1 .andH, f1 .andL, f1 .andAtHl, f1 .andA,
    f1 .xorB, f1 .xorC, f1 .xorD, f1 .xorE,
    f1 .xorH, f1 .xorL, f1 .xorAtHl, f1 .xorA ]

/-- Row Bx of R78. -/
def opcodeRowB : List OpcodeEntry :=
  [ f1 .orB, f1 .orC, f1 .orD, f1 .orE,
    f1 .orH, f1 .orL, f1 .orAtHl, f1 .orA,
    f1 .cpB, f1 .cpC, f1 .cpD, f1 .cpE,
    f1 .cpH, f1 .cpL, f1 .cpAtHl, f1 .cpA ]

/-- Row Cx of R78. -/
def opcodeRowC : List OpcodeEntry :=
  [ f1 .retNz, f1 .popBc, i16 .jpNzA16, i16 .jpA16,
    i16 .callNzA16, f1 .pushBc, i8 .addAN8, f1 .rst00,
    f1 .retZ, f1 .ret, i16 .jpZA16, f1 .prefixCb,
    i16 .callZA16, i16 .callA16, i8 .adcAN8, f1 .rst08 ]

/-- Row Dx of R78. -/
def opcodeRowD : List OpcodeEntry :=
  [ f1 .retNc, f1 .popDe, i16 .jpNcA16, f1 .illegalD3,
    i16 .callNcA16, f1 .pushDe, i8 .subN8, f1 .rst10,
    f1 .retC, f1 .reti, i16 .jpCA16, f1 .illegalDB,
    i16 .callCA16, f1 .illegalDD, i8 .sbcAN8, f1 .rst18 ]

/-- Row Ex of R78. -/
def opcodeRowE : List OpcodeEntry :=
  [ i8 .ldhAtA8A, f1 .popHl, f1 .ldAtCA, f1 .illegalE3,
    f1 .illegalE4, f1 .pushHl, i8 .andN8, f1 .rst20,
    i8 .addSpE8, f1 .jpHl, i16 .ldAtA16A, f1 .illegalEB,
    f1 .illegalEC, f1 .illegalED, i8 .xorN8, f1 .rst28 ]

/-- Row Fx of R78. -/
def opcodeRowF : List OpcodeEntry :=
  [ i8 .ldhAAtA8, f1 .popAf, f1 .ldAAtC, f1 .di,
    f1 .illegalF4, f1 .pushAf, i8 .orN8, f1 .rst30,
    i8 .ldHlSpE8, f1 .ldSpHl, i16 .ldAAtA16, f1 .ei,
    f1 .illegalFC, f1 .illegalFD, i8 .cpN8, f1 .rst38 ]

/-- The decode table of R78. -/
def opcodeGrid : List (List OpcodeEntry) :=
  [ opcodeRow0, opcodeRow1, opcodeRow2, opcodeRow3,
    opcodeRow4, opcodeRow5, opcodeRow6, opcodeRow7,
    opcodeRow8, opcodeRow9, opcodeRowA, opcodeRowB,
    opcodeRowC, opcodeRowD, opcodeRowE, opcodeRowF ]

/-- The entry of an opcode byte. The grid has 16 rows of 16 entries, so the default of getD, a
faulting entry, is never taken (Laws/Decode.lean, opcodeGrid_covers). -/
def opcodeEntry (op : Byte) : OpcodeEntry :=
  (opcodeGrid.getD (op.toNat / 16) []).getD (op.toNat % 16) (f1 .prefixCb)

/-- The instruction of an opcode byte and its immediate bytes; bytes the format has no place for are
not looked at (R77, R89). -/
def decodeOp (op b1 b2 : Byte) : Instr := opcodeEntry op b1 b2

/-- The size table of R79, rows as printed there; 0 stands for its dash (no size, the byte faults). -/
def sizeGrid : List (List Nat) :=
  [ [1, 3, 1, 1, 1, 1, 2, 1, 3, 1, 1, 1, 1, 1, 2, 1],
    [2, 3, 1, 1, 1, 1, 2, 1, 2, 1, 1, 1, 1, 1, 2, 1],
    [2, 3, 1, 1, 1, 1, 2, 1, 2, 1, 1, 1, 1, 1, 2, 1],
    [2, 3, 1, 1, 1, 1, 2, 1, 2, 1, 1, 1, 1, 1, 2, 1],
    [1, 1, 1, 1, 1, 1, 1, 1, 1, 1, 1, 1, 1, 1, 1, 1],
    [1, 1, 1, 1, 1, 1, 1, 1, 1, 1, 1, 1, 1, 1, 1, 1],
    [1, 1, 1, 1, 1, 1, 1, 1, 1, 1, 1, 1, 1, 1, 1, 1],
    [1, 1, 1, 1, 1, 1, 1, 1, 1, 1, 1, 1, 1, 1, 1, 1],
    [1, 1, 1, 1, 1, 1, 1, 1, 1, 1, 1, 1, 1, 1, 1, 1],
    [1, 1, 1, 1, 1, 1, 1, 1, 1, 1, 1, 1, 1, 1, 1, 1],
    [1, 1, 1, 1, 1, 1, 1, 1, 1, 1, 1, 1, 1, 1, 1, 1],
    [1, 1, 1, 1, 1, 1, 1, 1, 1, 1, 1, 1, 1, 1, 1, 1],
    [1, 1, 3, 3, 3, 1, 2, 1, 1, 1, 3, 0, 3, 3, 2, 1],
    [1, 1, 3, 0, 3, 1, 2, 1, 1, 1, 3, 0, 3, 0, 2, 1],
    [2, 1, 1, 0, 0, 1, 2, 1, 2, 1, 3, 0, 0, 0, 2, 1],
    [2, 1, 1, 1, 0, 1, 2, 1, 2, 1, 3, 1, 0, 0, 2, 1] ]

/-- SIZE[op] (R79, R88); none where the table has a dash. -/
def opSize (op : Byte) : Option Nat :=
  match (sizeGrid.getD (op.toNat / 16) []).getD (op.toNat % 16) 0 with
  | 0 => none
  | n + 1 => some (n + 1)

/-- Why a byte list is not an instruction. Every opcode byte has a row of the table (R83), so only
missing bytes are left: the list is empty, or the named opcode's immediates are cut off. -/
inductive DecodeError where
  | noBytes
  | truncated (op : Byte)
  deriving DecidableEq, Repr

/-- How many immediate bytes the format of an opcode has: its size less one, and none for a byte
without a size (R72, R79). -/
def immediateCount (op : Byte) : Nat := (opSize op).getD 1 - 1

/-- Decode the instruction at the head of a byte list; answers it with the bytes after it. -/
def decode : List Byte → Except DecodeError (Instr × List Byte)
  | [] => .error .noBytes
  | op :: rest =>
    match immediateCount op, rest with
    | 0, rest => .ok (decodeOp op 0 0, rest)
    | 1, b1 :: rest => .ok (decodeOp op b1 0, rest)
    | 2, b1 :: b2 :: rest => .ok (decodeOp op b1 b2, rest)
    | _, _ => .error (.truncated op)

/-- The bytes of an instruction, opcode first, immediates low byte first (R72, R73, R77). -/
def encode : Instr → List Byte
  | .nop => [0x00]
  | .ldBcN16 n => [0x01, loByte n, hiByte n]
  | .ldAtBcA => [0x02]
  | .incBc => [0x03]
  | .incB => [0x04]
  | .decB => [0x05]
  | .ldBN8 n => [0x06, n]
  | .rlca => [0x07]
  | .ldAtA16Sp a => [0x08, loByte a, hiByte a]
  | .addHlBc => [0x09]
  | .ldAAtBc => [0x0A]
  | .decBc => [0x0B]
  | .incC => [0x0C]
  | .decC => [0x0D]
  | .ldCN8 n => [0x0E, n]
  | .rrca => [0x0F]
  | .stop n => [0x10, n]
  | .ldDeN16 n => [0x11, loByte n, hiByte n]
  | .ldAtDeA => [0x12]
  | .incDe => [0x13]
  | .incD => [0x14]
  | .decD => [0x15]
  | .ldDN8 n => [0x16, n]
  | .rla => [0x17]
  | .jrE8 e => [0x18, e]
  | .addHlDe => [0x19]
  | .ldAAtDe => [0x1A]
  | .decDe => [0x1B]
  | .incE => [0x1C]
  | .decE => [0x1D]
  | .ldEN8 n => [0x1E, n]
  | .rra => [0x1F]
  | .jrNzE8 e => [0x20, e]
  | .ldHlN16 n => [0x21, loByte n, hiByte n]
  | .ldAtHlIncA => [0x22]
  | .incHl => [0x23]
  | .incH => [0x24]
  | .decH => [0x25]
  | .ldHN8 n => [0x26, n]
  | .daa => [0x27]
  | .jrZE8 e => [0x28, e]
  | .addHlHl => [0x29]
  | .ldAAtHlInc => [0x2A]
  | .decHl => [0x2B]
  | .incL => [0x2C]
  | .decL => [0x2D]
  | .ldLN8 n => [0x2E, n]
  | .cpl => [0x2F]
  | .jrNcE8 e => [0x30, e]
  | .ldSpN16 n => [0x31, loByte n, hiByte n]
  | .ldAtHlDecA => [0x32]
  | .incSp => [0x33]
  | .incAtHl => [0x34]
  | .decAtHl => [0x35]
  | .ldAtHlN8 n => [0x36, n]
  | .scf => [0x37]
  | .jrCE8 e => [0x38, e]
  | .addHlSp => [0x39]
  | .ldAAtHlDec => [0x3A]
  | .decSp => [0x3B]
  | .incA => [0x3C]
  | .decA => [0x3D]
  | .ldAN8 n => [0x3E, n]
  | .ccf => [0x3F]
  | .ldBB => [0x40]
  | .ldBC => [0x41]
  | .ldBD => [0x42]
  | .ldBE => [0x43]
  | .ldBH => [0x44]
  | .ldBL => [0x45]
  | .ldBAtHl => [0x46]
  | .ldBA => [0x47]
  | .ldCB => [0x48]
  | .ldCC => [0x49]
  | .ldCD => [0x4A]
  | .ldCE => [0x4B]
  | .ldCH => [0x4C]
  | .ldCL => [0x4D]
  | .ldCAtHl => [0x4E]
  | .ldCA => [0x4F]
  | .ldDB => [0x50]
  | .ldDC => [0x51]
  | .ldDD => [0x52]
  | .ldDE => [0x53]
  | .ldDH => [0x54]
  | .ldDL => [0x55]
  | .ldDAtHl => [0x56]
  | .ldDA => [0x57]
  | .ldEB => [0x58]
  | .ldEC => [0x59]
  | .ldED => [0x5A]
  | .ldEE => [0x5B]
  | .ldEH => [0x5C]
  | .ldEL => [0x5D]
  | .ldEAtHl => [0x5E]
  | .ldEA => [0x5F]
  | .ldHB => [0x60]
  | .ldHC => [0x61]
  | .ldHD => [0x62]
  | .ldHE => [0x63]
  | .ldHH => [0x64]
  | .ldHL => [0x65]
  | .ldHAtHl => [0x66]
  | .ldHA => [0x67]
  | .ldLB => [0x68]
  | .ldLC => [0x69]
  | .ldLD => [0x6A]
  | .ldLE => [0x6B]
  | .ldLH => [0x6C]
  | .ldLL => [0x6D]
  | .ldLAtHl => [0x6E]
  | .ldLA => [0x6F]
  | .ldAtHlB => [0x70]
  | .ldAtHlC => [0x71]
  | .ldAtHlD => [0x72]
  | .ldAtHlE => [0x73]
  | .ldAtHlH => [0x74]
  | .ldAtHlL => [0x75]
  | .halt => [0x76]
  | .ldAtHlA => [0x77]
  | .ldAB => [0x78]
  | .ldAC => [0x79]
  | .ldAD => [0x7A]
  | .ldAE => [0x7B]
  | .ldAH => [0x7C]
  | .ldAL => [0x7D]
  | .ldAAtHl => [0x7E]
  | .ldAA => [0x7F]
  | .addAB => [0x80]
  | .addAC => [0x81]
  | .addAD => [0x82]
  | .addAE => [0x83]
  | .addAH => [0x84]
  | .addAL => [0x85]
  | .addAAtHl => [0x86]
  | .addAA => [0x87]
  | .adcAB => [0x88]
  | .adcAC => [0x89]
  | .adcAD => [0x8A]
  | .adcAE => [0x8B]
  | .adcAH => [0x8C]
  | .adcAL => [0x8D]
  | .adcAAtHl => [0x8E]
  | .adcAA => [0x8F]
  | .subB => [0x90]
  | .subC => [0x91]
  | .subD => [0x92]
  | .subE => [0x93]
  | .subH => [0x94]
  | .subL => [0x95]
  | .subAtHl => [0x96]
  | .subA => [0x97]
  | .sbcAB => [0x98]
  | .sbcAC => [0x99]
  | .sbcAD => [0x9A]
  | .sbcAE => [0x9B]
  | .sbcAH => [0x9C]
  | .sbcAL => [0x9D]
  | .sbcAAtHl => [0x9E]
  | .sbcAA => [0x9F]
  | .andB => [0xA0]
  | .andC => [0xA1]
  | .andD => [0xA2]
  | .andE => [0xA3]
  | .andH => [0xA4]
  | .andL => [0xA5]
  | .andAtHl => [0xA6]
  | .andA => [0xA7]
  | .xorB => [0xA8]
  | .xorC => [0xA9]
  | .xorD => [0xAA]
  | .xorE => [0xAB]
  | .xorH => [0xAC]
  | .xorL => [0xAD]
  | .xorAtHl => [0xAE]
  | .xorA => [0xAF]
  | .orB => [0xB0]
  | .orC => [0xB1]
  | .orD => [0xB2]
  | .orE => [0xB3]
  | .orH => [0xB4]
  | .orL => [0xB5]
  | .orAtHl => [0xB6]
  | .orA => [0xB7]
  | .cpB => [0xB8]
  | .cpC => [0xB9]
  | .cpD => [0xBA]
  | .cpE => [0xBB]
  | .cpH => [0xBC]
  | .cpL => [0xBD]
  | .cpAtHl => [0xBE]
  | .cpA => [0xBF]
  | .retNz => [0xC0]
  | .popBc => [0xC1]
  | .jpNzA16 a => [0xC2, loByte a, hiByte a]
  | .jpA16 a => [0xC3, loByte a, hiByte a]
  | .callNzA16 a => [0xC4, loByte a, hiByte a]
  | .pushBc => [0xC5]
  | .addAN8 n => [0xC6, n]
  | .rst00 => [0xC7]
  | .retZ => [0xC8]
  | .ret => [0xC9]
  | .jpZA16 a => [0xCA, loByte a, hiByte a]
  | .prefixCb => [0xCB]
  | .callZA16 a => [0xCC, loByte a, hiByte a]
  | .callA16 a => [0xCD, loByte a, hiByte a]
  | .adcAN8 n => [0xCE, n]
  | .rst08 => [0xCF]
  | .retNc => [0xD0]
  | .popDe => [0xD1]
  | .jpNcA16 a => [0xD2, loByte a, hiByte a]
  | .illegalD3 => [0xD3]
  | .callNcA16 a => [0xD4, loByte a, hiByte a]
  | .pushDe => [0xD5]
  | .subN8 n => [0xD6, n]
  | .rst10 => [0xD7]
  | .retC => [0xD8]
  | .reti => [0xD9]
  | .jpCA16 a => [0xDA, loByte a, hiByte a]
  | .illegalDB => [0xDB]
  | .callCA16 a => [0xDC, loByte a, hiByte a]
  | .illegalDD => [0xDD]
  | .sbcAN8 n => [0xDE, n]
  | .rst18 => [0xDF]
  | .ldhAtA8A o => [0xE0, o]
  | .popHl => [0xE1]
  | .ldAtCA => [0xE2]
  | .illegalE3 => [0xE3]
  | .illegalE4 => [0xE4]
  | .pushHl => [0xE5]
  | .andN8 n => [0xE6, n]
  | .rst20 => [0xE7]
  | .addSpE8 e => [0xE8, e]
  | .jpHl => [0xE9]
  | .ldAtA16A a => [0xEA, loByte a, hiByte a]
  | .illegalEB => [0xEB]
  | .illegalEC => [0xEC]
  | .illegalED => [0xED]
  | .xorN8 n => [0xEE, n]
  | .rst28 => [0xEF]
  | .ldhAAtA8 o => [0xF0, o]
  | .popAf => [0xF1]
  | .ldAAtC => [0xF2]
  | .di => [0xF3]
  | .illegalF4 => [0xF4]
  | .pushAf => [0xF5]
  | .orN8 n => [0xF6, n]
  | .rst30 => [0xF7]
  | .ldHlSpE8 e => [0xF8, e]
  | .ldSpHl => [0xF9]
  | .ldAAtA16 a => [0xFA, loByte a, hiByte a]
  | .ei => [0xFB]
  | .illegalFC => [0xFC]
  | .illegalFD => [0xFD]
  | .cpN8 n => [0xFE, n]
  | .rst38 => [0xFF]

/-- The opcode byte of an instruction. -/
def Instr.opcode (i : Instr) : Byte := (encode i).headD 0

/-- SIZE of an instruction's opcode (R79, R88); 0 where the table has none, which no instruction that
completes meets. -/
def Instr.size (i : Instr) : Nat := (opSize i.opcode).getD 0

/-- The instruction my decoder reads from the word w of nbits bits, numbered as
spec/opcode_table.json numbers them: the first byte is bits 7..0, the next bits 15..8. Bits at and
above nbits are 0, up to the longest instruction (three bytes). -/
def decodeTableWord (nbits w : Nat) : Option Instr :=
  let v := w % 2 ^ nbits
  match decode [BitVec.ofNat 8 v, BitVec.ofNat 8 (v / 256), BitVec.ofNat 8 (v / 65536)] with
  | .ok (i, _) => some i
  | .error _ => none

end Sys2Proof
end

