-- ==== Sys2Proof/Config.lean ====
section
/-! DEFINITION. What the spec leaves open: the types of the launch parameters (00_scope.md R7,
70_reset_and_hazards.md R199), which State carries as plain data, and the free values, which are
opaque constants with no body, so that no proof can see them. -/

namespace Sys2Proof

/-- HALT_STOP_POLICY (92 D6): whether opcodes 0x76 and 0x10 fault or do nothing. -/
inductive HaltStopPolicy where
  | fault
  | nop
  deriving DecidableEq, Repr, Inhabited

/-- VBLANK_MODEL (92 D29): one block of 4560 cycles, or ten lines of 456. -/
inductive VblankModel where
  | coarse
  | perLine
  deriving DecidableEq, Repr, Inhabited

/-- STAT_WRITE_POLICY (92 D30): what the PPU's write does to STAT bits 7..3. -/
inductive StatWritePolicy where
  | preserveUpper
  | overwrite
  deriving DecidableEq, Repr, Inhabited

/-- One argument tuple of DAA_H (41_alu8.md R139): A before, A after, and N, H, C before. -/
structure DaaCase where
  before : Byte
  after : Byte
  n : Bool
  h : Bool
  c : Bool
  deriving DecidableEq, Repr, Inhabited

/-- One framebuffer pixel: the bytes R, G, B, A in that order (10_state.md R36). -/
structure Rgba where
  red : Byte
  green : Byte
  blue : Byte
  alpha : Byte
  deriving DecidableEq, Repr, Inhabited

/-- PALETTE (60_exceptions.md R187, 92 D33): the quads of colour indices 0..3. -/
structure Palette where
  white : Rgba
  lightGray : Rgba
  darkGray : Rgba
  black : Rgba
  deriving DecidableEq, Repr, Inhabited

/-- The launch parameters of 00_scope.md R7, fixed for a run (70_reset_and_hazards.md R199 premise 3).
DESIGN CHOICE (log entry 3), safe: they are plain data in State, so a statement about every state
holds for every value of them. -/
structure Params where
  /-- CYCLES: the base count of each opcode, entry n for opcode n (30_encoding.md R80). -/
  cycles : List Nat
  /-- HALT_STOP_POLICY. -/
  haltStop : HaltStopPolicy
  /-- DAA_H, a function with finitely many arguments, as the list of those it is true at. -/
  daaH : List DaaCase
  /-- DISPATCH_CYCLES (60_exceptions.md R172). -/
  dispatchCycles : Nat
  /-- DEVICE_ADDRS (20_memory.md R56). -/
  deviceAddrs : List Word
  /-- VBLANK_MODEL. -/
  vblank : VblankModel
  /-- STAT_WRITE_POLICY. -/
  statWrite : StatWritePolicy
  /-- PALETTE. -/
  palette : Palette
  deriving DecidableEq, Repr, Inhabited

/-- One event of the device port (20_memory.md R56): a read with the byte it drew, or a write. -/
inductive DeviceEvent where
  | read (addr : Word) (value : Byte)
  | write (addr : Word) (value : Byte)
  deriving DecidableEq, Repr, Inhabited

/-- The interrupt requests of one iteration (60_exceptions.md R192): timer, serial, joypad. -/
structure ExtIrq where
  timer : Bool
  serial : Bool
  joypad : Bool
  deriving DecidableEq, Repr, Inhabited

/-- FREE VALUE (log entry 5). DEVICE_READ(a, history), 20_memory.md R56: the byte a collaborator's
register returns, under no law. -/
opaque Config.deviceRead : Word → List DeviceEvent → Byte

/-- FREE VALUE (log entry 6). EXT_IRQ, 60_exceptions.md R192: the requests of one iteration, under no
law. The first argument numbers the draw, so each iteration's draw is a fresh value; cycle count and
history are arguments because the draws may depend on them. -/
opaque Config.extIrq : Nat → Nat → List DeviceEvent → ExtIrq

/-- FREE VALUE (log entry 4). PALETTE, 60_exceptions.md R187: the spec names the four shades and
leaves their bytes open. -/
opaque Config.palette : Palette

end Sys2Proof
end

