-- ==== Sys2Proof/Machine/Defaults.lean ====
section
/-! DEFINITION. The default launch parameters (00_scope.md R7): the values State.reset carries. -/

namespace Sys2Proof.Machine

/-- CYCLES' default: the table of 30_encoding.md R80, rows as printed there. The spec gives no count
where it has a dash (the byte faults before its count is looked up); the 0 there is never read. -/
def defaultCycles : List Nat :=
  [4, 12, 8, 8, 4, 4, 8, 4, 20, 8, 8, 8, 4, 4, 8, 4] ++
  [4, 12, 8, 8, 4, 4, 8, 4, 12, 8, 8, 8, 4, 4, 8, 4] ++
  [8, 12, 8, 8, 4, 4, 8, 4, 8, 8, 8, 8, 4, 4, 8, 4] ++
  [8, 12, 8, 8, 12, 12, 8, 4, 8, 8, 8, 8, 4, 4, 8, 4] ++
  [4, 4, 4, 4, 4, 4, 8, 4, 4, 4, 4, 4, 4, 4, 8, 4] ++
  [4, 4, 4, 4, 4, 4, 8, 4, 4, 4, 4, 4, 4, 4, 8, 4] ++
  [4, 4, 4, 4, 4, 4, 8, 4, 4, 4, 4, 4, 4, 4, 8, 4] ++
  [8, 8, 8, 8, 8, 8, 4, 8, 4, 4, 4, 4, 4, 4, 8, 4] ++
  [4, 4, 4, 4, 4, 4, 8, 4, 4, 4, 4, 4, 4, 4, 8, 4] ++
  [4, 4, 4, 4, 4, 4, 8, 4, 4, 4, 4, 4, 4, 4, 8, 4] ++
  [4, 4, 4, 4, 4, 4, 8, 4, 4, 4, 4, 4, 4, 4, 8, 4] ++
  [4, 4, 4, 4, 4, 4, 8, 4, 4, 4, 4, 4, 4, 4, 8, 4] ++
  [8, 12, 12, 12, 12, 16, 8, 16, 8, 16, 12, 0, 12, 12, 8, 16] ++
  [8, 12, 12, 0, 12, 16, 8, 16, 8, 16, 12, 0, 12, 0, 8, 16] ++
  [12, 12, 8, 0, 0, 16, 8, 16, 16, 4, 16, 0, 0, 0, 8, 16] ++
  [12, 12, 8, 4, 0, 16, 8, 16, 12, 8, 16, 4, 0, 0, 8, 16]

/-- DEVICE_ADDRS' default (20_memory.md R56): joypad, serial, timer. -/
def defaultDeviceAddrs : List Word :=
  [0xFF00, 0xFF01, 0xFF02, 0xFF04, 0xFF05, 0xFF06, 0xFF07]

/-- The parameters at their defaults (00_scope.md R7). PALETTE has no default bytes: it is the free
value Config.palette. -/
def defaultParams : Params where
  cycles := defaultCycles
  haltStop := .fault
  daaH := []
  dispatchCycles := 0
  deviceAddrs := defaultDeviceAddrs
  vblank := .coarse
  statWrite := .preserveUpper
  palette := Config.palette

end Sys2Proof.Machine
end

