-- ==== Sys2Proof/Machine/State.lean ====
section
/-! DEFINITION. The state of the machine: every piece of state 10_state.md names, the device history
of 20_memory.md R56, the launch parameters of 00_scope.md R7, and one counter of the model's own
(draws). All of it is plain data. -/

namespace Sys2Proof.Machine

/-- The PPU's mode (10_state.md R33). -/
inductive Mode where
  | oamSearch
  | pixelTransfer
  | hblank
  | vblank
  deriving DecidableEq, Repr, Inhabited

/-- The fault kinds of 60_exceptions.md R166. -/
inductive FaultKind where
  /-- The fetched opcode has no entry. Raised by the meanings of the faulting opcodes. -/
  | unimplementedOpcode
  /-- An operand with no meaning for its operation. Raised by nothing: no byte decodes to one (R23). -/
  | invalidOperandCombination
  /-- An interrupt is pending only in bits 7..5. Raised by the interrupt check (R171). -/
  | undefinedInterruptSource
  deriving DecidableEq, Repr, Inhabited

/-- A fault record: kind, info (the opcode byte, or IF and IE together), address (10_state.md R32,
60_exceptions.md R166). -/
structure FaultRecord where
  kind : FaultKind
  info : Byte
  address : Word
  deriving DecidableEq, Repr, Inhabited

/-- The flat array as (address, byte) pairs: addresses strictly rising, none listed with the byte an
unlisted address reads as (Memory.wf in Ops.lean). -/
abbrev Memory := List Host.Cell

/-- The machine's state. -/
structure State where
  /-- The accumulator (10_state.md R17). -/
  a : Byte
  /-- The flags byte: Z, N, H, C in bits 7..4, low nibble zero (R19, R20). -/
  f : Byte
  b : Byte
  c : Byte
  d : Byte
  e : Byte
  h : Byte
  l : Byte
  /-- The stack pointer (R26). -/
  sp : Word
  /-- The program counter (R24). -/
  pc : Word
  /-- The interrupt master enable (R27). -/
  ime : Bool
  /-- The saved IME (R28). -/
  prevIme : Bool
  /-- Exists, never written, never read (R29). -/
  halted : Bool
  /-- Exists, never written, never read (R29). -/
  stopped : Bool
  /-- The cumulative cycle counter, unbounded (R30). -/
  cycles : Nat
  /-- pc_written, step-local (R31): set by a control transfer, false between steps. -/
  pcWritten : Bool
  /-- The fault record, if a fault was raised (R32). -/
  fault : Option FaultRecord
  /-- The PPU's mode (R33). -/
  mode : Mode
  /-- The PPU's scanline counter, 0..153 (R34). -/
  ly : Nat
  /-- The PPU's cycle accumulator (R35). -/
  acc : Nat
  /-- The framebuffer, 144 rows of 160 pixels (R36). -/
  fb : List (List Rgba)
  /-- The background colour indices of the line last rendered, 160 of them (R37). -/
  bgIndex : List ColourIndex
  /-- The 64 KiB memory (20_memory.md R51). -/
  mem : Memory
  /-- The device port's events, oldest first (20_memory.md R56). -/
  history : List DeviceEvent
  /-- The model's own: how many times EXT_IRQ was drawn (log entry 6). -/
  draws : Nat
  /-- The launch parameters (00_scope.md R7, 70_reset_and_hazards.md R199). -/
  params : Params
  deriving DecidableEq, Repr, Inhabited

/-- Why a step stops. -/
inductive Fault where
  /-- Raised by step, and only by it, when the state already holds the fault record r: a machine with
  a fault set takes no further step of any agent (10_state.md R32, 60_exceptions.md R167). Safe: the
  hardware stops there too. -/
  | machineFaulted (r : FaultRecord)
  deriving DecidableEq, Repr

/-- Why an instruction has no meaning. -/
inductive Refusal where
  /-- Raised by exec's arm of an instruction that has no meaning yet; no arm does. Safe: it stops. -/
  | notModelled (mnemonic : String)
  deriving DecidableEq, Repr

/-- The outcome of a step or of an instruction. -/
abbrev StepResult := Host.Outcome State Fault Refusal

/-- The state at power-on with launch image mem0 and parameters p (10_state.md R46 to R50,
70_reset_and_hazards.md R198, R199). pcWritten, history and draws: DESIGN CHOICE (log entries 9, 5, 6). -/
def State.launch (p : Params) (mem0 : Memory) : State where
  a := 0
  f := 0
  b := 0
  c := 0
  d := 0
  e := 0
  h := 0
  l := 0
  sp := 0
  pc := 0
  ime := false
  prevIme := false
  halted := false
  stopped := false
  cycles := 0
  pcWritten := false
  fault := none
  mode := .oamSearch
  ly := 0
  acc := 0
  fb := List.replicate 144 (List.replicate 160 ⟨0, 0, 0, 0⟩)
  bgIndex := List.replicate 160 0
  mem := mem0
  history := []
  draws := 0
  params := p

/-- The machine right after reset: default parameters, nothing listed in memory (log entry 1). -/
def State.reset : State := State.launch defaultParams []

end Sys2Proof.Machine
end

