-- ==== Sys2Proof/Machine/Ops.lean ====
section
/-! DEFINITION. The named operations over memory and state that the instructions share: the flat
array, the CPU-side access primitives with the region gate and the device port (20_memory.md), the
stack (40_loads.md R94, R95), control transfer and the end of an instruction (30_encoding.md R86 to
R92), raising a fault (R93; 60_exceptions.md R166), and taking an interrupt and returning from one
(60_exceptions.md R171; 43_control.md R157). -/

namespace Sys2Proof.Machine

/-! The flat array. -/

/-- What a byte no launch image and no store has given reads as. DESIGN CHOICE (log entry 1), unsafe:
the spec leaves MEM0 to the launch. -/
def Memory.unlisted : Byte := 0x00

/-- The size of the address space (20_memory.md R51). -/
def Memory.size : Nat := 65536

/-- mem[a] (00_scope.md R11). -/
def Memory.read : Memory → Nat → Byte
  | [], _ => Memory.unlisted
  | (k, v) :: m, x => if x = k then v else Memory.read m x

/-- mem[x] <- v, keeping the canonical form: a byte equal to Memory.unlisted is not listed. -/
def Memory.write : Memory → Nat → Byte → Memory
  | [], x, v => if v = Memory.unlisted then [] else [(x, v)]
  | (k, w) :: m, x, v =>
    if x < k then (if v = Memory.unlisted then (k, w) :: m else (x, v) :: (k, w) :: m)
    else if x = k then (if v = Memory.unlisted then m else (x, v) :: m)
    else (k, w) :: Memory.write m x v

/-- Addresses rise strictly from at least lo, lie in the address space, and no listed byte is the
unlisted one. -/
def Memory.wfFrom : Nat → Memory → Bool
  | _, [] => true
  | lo, (k, v) :: m =>
    decide (lo ≤ k) && decide (k < Memory.size) && decide (v ≠ Memory.unlisted) && Memory.wfFrom (k + 1) m

/-- The canonical form. -/
def Memory.wf (m : Memory) : Bool := Memory.wfFrom 0 m

/-- mem[a] of a state: the stored byte, without gate or device port (00_scope.md R11). -/
def State.peek (s : State) (x : Word) : Byte := s.mem.read x.toNat

/-- mem[a] <- v of a state, without gate or device port. -/
def State.poke (s : State) (x : Word) (v : Byte) : State := { s with mem := s.mem.write x.toNat v }

/-! The CPU-side access primitives. -/

/-- Video RAM or object attribute memory (20_memory.md R52). -/
def gated (x : Word) : Bool :=
  decide (0x8000 ≤ x.toNat ∧ x.toNat ≤ 0x9FFF) || decide (0xFE00 ≤ x.toNat ∧ x.toNat ≤ 0xFE9F)

/-- The modes in which gated addresses are closed (R52). -/
def Mode.closesGate : Mode → Bool
  | .oamSearch => true
  | .pixelTransfer => true
  | .hblank => false
  | .vblank => false

/-- The address is closed to the CPU in this state's mode (R52). -/
def State.blocked (s : State) (x : Word) : Bool := gated x && s.mode.closesGate

/-- The address belongs to a collaborator (R56). -/
def State.isDevice (s : State) (x : Word) : Bool := decide (x ∈ s.params.deviceAddrs)

/-- The sentinel of a blocked read (R52). -/
def sentinel : Byte := 0xFF

/-- MemRead(a, 1) (R54): the byte, and the state after it; only a device read changes the state, by
its event. -/
def State.memRead (s : State) (x : Word) : Byte × State :=
  if s.blocked x then (sentinel, s)
  else if s.isDevice x then
    (Config.deviceRead x s.history,
      { s with history := s.history ++ [.read x (Config.deviceRead x s.history)] })
  else (s.peek x, s)

/-- MemWrite(a, 1, v) (R55). -/
def State.memWrite (s : State) (x : Word) (v : Byte) : State :=
  if s.blocked x then s
  else if s.isDevice x then { s with history := s.history ++ [.write x v] }
  else s.poke x v

/-- MemRead(a, 2) (R57): low byte first. -/
def State.memRead16 (s : State) (x : Word) : Word × State :=
  let (lo, s1) := s.memRead x
  let (hi, s2) := s1.memRead (x + 1)
  (wordOf hi lo, s2)

/-- MemWrite(a, 2, v) (R58): low byte first. -/
def State.memWrite16 (s : State) (x : Word) (v : Word) : State :=
  (s.memWrite x (loByte v)).memWrite (x + 1) (hiByte v)

/-! The stack. -/

/-- push16(v) (40_loads.md R94): high byte at SP - 1, then low byte at SP - 2. -/
def State.push16 (s : State) (v : Word) : State :=
  let s1 := s.memWrite (s.sp - 1) (hiByte v)
  let s2 := s1.memWrite (s.sp - 2) (loByte v)
  { s2 with sp := s.sp - 2 }

/-- pop16() (40_loads.md R95): low byte at SP, then high byte at SP + 1. -/
def State.pop16 (s : State) : Word × State :=
  let (lo, s1) := s.memRead s.sp
  let (hi, s2) := s1.memRead (s.sp + 1)
  (wordOf hi lo, { s2 with sp := s.sp + 2 })

/-! Control transfer and the end of an instruction. -/

/-- pc <- target (00_scope.md R13): PC and pc_written. -/
def State.jumpTo (s : State) (target : Word) : State := { s with pc := target, pcWritten := true }

/-- CYCLES[op] under the launch's parameters (30_encoding.md R80, R88). -/
def cyclesOf (p : Params) (op : Byte) : Nat := p.cycles.getD op.toNat 0

/-- The address of the next instruction, (pc + size) & 0xFFFF (30_encoding.md R90). -/
def State.nextPc (s : State) (i : Instr) : Word := s.pc + BitVec.ofNat 16 i.size

/-- The end of a CPU step (30_encoding.md R91, R92): advance PC unless pc_written, which does not
survive the step (10_state.md R31), and add the base count. -/
def retire (i : Instr) (s : State) : State :=
  { s with
    pc := if s.pcWritten then s.pc else s.nextPc i
    pcWritten := false
    cycles := s.cycles + cyclesOf s.params i.opcode }

/-- An instruction that executes: pc_written cleared, its effect, the end of the step (30_encoding.md
R86). -/
def complete (i : Instr) (body : State → State) (s : State) : StepResult :=
  .next (retire i (body { s with pcWritten := false }))

/-! Faults. -/

/-- raise Fault(kind, info) at an address: the record is stored and nothing else is written
(30_encoding.md R93; 60_exceptions.md R166, R168). -/
def State.raiseFault (s : State) (k : FaultKind) (info : Byte) (address : Word) : State :=
  { s with fault := some ⟨k, info, address⟩ }

/-- An opcode with no entry (30_encoding.md R88): Fault(UnimplementedOpcode, op, pc). -/
def unimplemented (i : Instr) (s : State) : StepResult :=
  .next (s.raiseFault .unimplementedOpcode i.opcode s.pc)

/-! Interrupts: the one way in and the way back. -/

/-- IF, the interrupt request flags (10_state.md R38). -/
def ifAddr : Word := 0xFF0F

/-- IE, the interrupt enable bits (10_state.md R39). -/
def ieAddr : Word := 0xFFFF

/-- VECTOR[n] (60_exceptions.md R170). -/
def vector (n : Nat) : Word := BitVec.ofNat 16 (0x0040 + 8 * n)

/-- The lowest source among bits 0..4 (60_exceptions.md R169); only asked of a byte that has one. -/
def lowestSource (pending : Byte) : Nat :=
  if pending.getLsbD 0 then 0
  else if pending.getLsbD 1 then 1
  else if pending.getLsbD 2 then 2
  else if pending.getLsbD 3 then 3
  else 4

/-- Dispatch of source n (60_exceptions.md R171): IME saved and cleared, PC pushed, the bit cleared in
IF as it stands after the push (92 D51), PC at the handler. -/
def State.takeInterrupt (s : State) (n : Nat) : State :=
  let s1 := { s with prevIme := s.ime, ime := false }
  let s2 := s1.push16 s.pc
  let s3 := s2.poke ifAddr (s2.peek ifAddr &&& ~~~(1#8 <<< n))
  { s3 with pc := vector n, cycles := s3.cycles + s3.params.dispatchCycles }

/-- Return from interrupt (43_control.md R157): PC popped, IME and prev_IME swapped. -/
def State.returnFromInterrupt (s : State) : State :=
  let (target, s1) := s.pop16
  let s2 := s1.jumpTo target
  { s2 with ime := s2.prevIme, prevIme := s2.ime }

/-- handle_interrupts() (60_exceptions.md R171). -/
def State.handleInterrupts (s : State) : State :=
  let pending := s.peek ifAddr &&& s.peek ieAddr
  if !s.ime || pending == 0 then s
  else if pending &&& 0x1F == 0 then s.raiseFault .undefinedInterruptSource pending s.pc
  else s.takeInterrupt (lowestSource pending)

/-- The collaborators' requests of one iteration (60_exceptions.md R192): a fresh draw sets IF bits 2
(timer), 3 (serial), 4 (joypad). -/
def State.externalRequests (s : State) : State :=
  let r := Config.extIrq s.draws s.cycles s.history
  let bits : Byte :=
    (if r.timer then 0x04 else 0) ||| (if r.serial then 0x08 else 0) ||| (if r.joypad then 0x10 else 0)
  { s.poke ifAddr (s.peek ifAddr ||| bits) with draws := s.draws + 1 }

end Sys2Proof.Machine
end

