-- ==== Sys2Proof/Machine/Flags.lean ====
section
/-! DEFINITION. The flags (10_state.md R19 to R21) and every flag computation of the spec: each
operation's result together with the flags it leaves (41_alu8.md, 42_alu16.md). Sums and differences
are taken on unbounded integers and narrowed at the end (00_scope.md R9). -/

namespace Sys2Proof.Machine

/-- The four flags as booleans (10_state.md R20). -/
structure Flags where
  z : Bool
  n : Bool
  h : Bool
  c : Bool
  deriving DecidableEq, Repr, Inhabited

/-- b2i (00_scope.md R9). -/
def b2i (b : Bool) : Nat := if b then 1 else 0

/-- decode(f) (10_state.md R21). -/
def Flags.ofByte (f : Byte) : Flags :=
  ⟨f.getLsbD 7, f.getLsbD 6, f.getLsbD 5, f.getLsbD 4⟩

/-- encode(Z, N, H, C) (10_state.md R21; 00_scope.md R14). -/
def Flags.toByte (g : Flags) : Byte :=
  BitVec.ofNat 8 (b2i g.z * 128 + b2i g.n * 64 + b2i g.h * 32 + b2i g.c * 16)

/-- The flags of a state. -/
def State.flags (s : State) : Flags := Flags.ofByte s.f

/-- Write all four flags (00_scope.md R14). -/
def State.setFlags (s : State) (g : Flags) : State := { s with f := g.toByte }

/-- x[F] <- v, normalised by decomposing and re-encoding (10_state.md R19). -/
def State.setF (s : State) (v : Byte) : State := s.setFlags (Flags.ofByte v)

/-! Accumulator operations (41_alu8.md R122 to R130). -/

/-- ADD and ADC, with carry-in cin (R123, R124). -/
def addFlags (a s : Byte) (cin : Bool) : Byte × Flags :=
  let t := a.toNat + s.toNat + b2i cin
  (BitVec.ofNat 8 t,
    { z := t % 256 == 0
      n := false
      h := decide (a.toNat % 16 + s.toNat % 16 + b2i cin > 0x0F)
      c := decide (t > 0xFF) })

/-- SUB, SBC and CP, with borrow-in cin (R125, R126, R130). -/
def subFlags (a s : Byte) (cin : Bool) : Byte × Flags :=
  let t := ((a.toNat : Int) - s.toNat - b2i cin) % 256
  (BitVec.ofInt 8 t,
    { z := t == 0
      n := true
      h := decide (a.toNat % 16 < s.toNat % 16 + b2i cin)
      c := decide (a.toNat < s.toNat + b2i cin) })

/-- AND, XOR and OR: Z of the result, N = C = 0, H given (R127, R128, R129). -/
def logicFlags (r : Byte) (h : Bool) : Byte × Flags := (r, ⟨r == 0, false, h, false⟩)

/-- The accumulator operation on A = a and operand s with flags g before it: A and the flags after.
CP keeps A (R130). -/
def aluApply (op : AluOp) (a s : Byte) (g : Flags) : Byte × Flags :=
  match op with
  | .add => addFlags a s false
  | .adc => addFlags a s g.c
  | .sub => subFlags a s false
  | .sbc => subFlags a s g.c
  | .and => logicFlags (a &&& s) true
  | .xor => logicFlags (a ^^^ s) false
  | .or => logicFlags (a ||| s) false
  | .cp => (a, (subFlags a s false).2)

/-! Increment and decrement (41_alu8.md R131 to R134): the carry is kept. -/

/-- INC of a byte (R131, R132). -/
def incFlags (v : Byte) (g : Flags) : Byte × Flags :=
  (v + 1, { g with z := v + 1 == 0, n := false, h := v.toNat % 16 == 0x0F })

/-- DEC of a byte (R133, R134). -/
def decFlags (v : Byte) (g : Flags) : Byte × Flags :=
  (v - 1, { g with z := v - 1 == 0, n := true, h := v.toNat % 16 == 0x00 })

/-! Rotates (41_alu8.md R135 to R138): Z, N and H are cleared, C is the bit shifted out. -/

/-- A left by one with bit b0 shifted in (R135, R136). -/
def rotateLeft (a : Byte) (b0 : Bool) : Byte × Flags :=
  (a <<< 1 ||| BitVec.ofNat 8 (b2i b0), ⟨false, false, false, a.getLsbD 7⟩)

/-- A right by one with bit b7 shifted in (R137, R138). -/
def rotateRight (a : Byte) (b7 : Bool) : Byte × Flags :=
  (a >>> 1 ||| BitVec.ofNat 8 (b2i b7 * 128), ⟨false, false, false, a.getLsbD 0⟩)

/-! Decimal adjust (41_alu8.md R139). -/

/-- DAA_H(a, A after, N, H, C) under the launch's parameters. -/
def daaHalf (p : Params) (before after : Byte) (g : Flags) : Bool :=
  decide ((⟨before, after, g.n, g.h, g.c⟩ : DaaCase) ∈ p.daaH)

/-- Whether DAA's upper-nibble correction fires (R139). -/
def daaUpper (a : Byte) (g : Flags) : Bool :=
  if g.n then g.c else g.c || decide (a.toNat > 0x99)

/-- Whether DAA's lower-nibble correction fires (R139). -/
def daaLower (a : Byte) (g : Flags) : Bool :=
  if g.n then g.h else g.h || decide (a.toNat % 16 > 0x09)

/-- DAA's correction amount (R139). -/
def daaCorrection (a : Byte) (g : Flags) : Byte :=
  (if daaUpper a g then 0x60 else 0) ||| (if daaLower a g then 0x06 else 0)

/-- DAA: A and the flags after (R139). N is kept. -/
def daaFlags (p : Params) (a : Byte) (g : Flags) : Byte × Flags :=
  let r := if g.n then a - daaCorrection a g else a + daaCorrection a g
  (r, { z := r == 0, n := g.n, h := daaHalf p a r g, c := daaUpper a g })

/-! 16-bit arithmetic (42_alu16.md R143, R146; 40_loads.md R118). -/

/-- ADD HL,rr: Z from the 16-bit result, H out of bit 11, C out of bit 15 (R143). -/
def add16Flags (x v : Word) : Word × Flags :=
  let t := x.toNat + v.toNat
  (BitVec.ofNat 16 t,
    { z := t % 65536 == 0
      n := false
      h := decide (x.toNat % 4096 + v.toNat % 4096 > 0x0FFF)
      c := decide (t > 0xFFFF) })

/-- sext_16(e) (00_scope.md R9). -/
def sext16 (e : Byte) : Word := e.signExtend 16

/-- SP + e8: the sum with the sign-extended displacement, the flags from the unsigned addition of
SP's low byte and the displacement byte (R118, R146). -/
def spDispFlags (sp : Word) (e : Byte) : Word × Flags :=
  (sp + sext16 e,
    { z := false
      n := false
      h := decide (sp.toNat % 16 + e.toNat % 16 > 0x0F)
      c := decide (sp.toNat % 256 + e.toNat > 0xFF) })

end Sys2Proof.Machine
end

