-- ==== Sys2Proof/Machine/Operands.lean ====
section
/-! DEFINITION. Every operand form the instructions use: 8-bit selectors, register pairs, the second
operand of the accumulator group, high-page addresses and conditions (10_state.md R18, R22;
30_encoding.md R74 to R77; 41_alu8.md R121; 43_control.md R147). -/

namespace Sys2Proof.Machine

/-- x[r] (10_state.md R17). -/
def State.reg8 (s : State) : Reg8 → Byte
  | .b => s.b
  | .c => s.c
  | .d => s.d
  | .e => s.e
  | .h => s.h
  | .l => s.l
  | .a => s.a

/-- x[r] <- v (10_state.md R17). -/
def State.setReg8 (s : State) (r : Reg8) (v : Byte) : State :=
  match r with
  | .b => { s with b := v }
  | .c => { s with c := v }
  | .d => { s with d := v }
  | .e => { s with e := v }
  | .h => { s with h := v }
  | .l => { s with l := v }
  | .a => { s with a := v }

/-- x[AF], high byte first (10_state.md R18). -/
def State.af (s : State) : Word := wordOf s.a s.f

/-- x[BC] (R18). -/
def State.bc (s : State) : Word := wordOf s.b s.c

/-- x[DE] (R18). -/
def State.de (s : State) : Word := wordOf s.d s.e

/-- x[HL] (R18). -/
def State.hl (s : State) : Word := wordOf s.h s.l

/-- x[HL] <- v (10_state.md R18). -/
def State.setHl (s : State) (v : Word) : State := { s with h := hiByte v, l := loByte v }

/-- x[rr] for rr in the SP set (30_encoding.md R75). -/
def State.reg16 (s : State) : Reg16 → Word
  | .bc => s.bc
  | .de => s.de
  | .hl => s.hl
  | .sp => s.sp

/-- x[rr] <- v for rr in the SP set. -/
def State.setReg16 (s : State) (r : Reg16) (v : Word) : State :=
  match r with
  | .bc => { s with b := hiByte v, c := loByte v }
  | .de => { s with d := hiByte v, e := loByte v }
  | .hl => s.setHl v
  | .sp => { s with sp := v }

/-- x[rr] for rr in the AF set (30_encoding.md R75). -/
def State.regStk (s : State) : Reg16Stk → Word
  | .bc => s.bc
  | .de => s.de
  | .hl => s.hl
  | .af => s.af

/-- x[rr] <- v for rr in the AF set; the write of F is normalised (10_state.md R18, R19). -/
def State.setRegStk (s : State) (r : Reg16Stk) (v : Word) : State :=
  match r with
  | .bc => { s with b := hiByte v, c := loByte v }
  | .de => { s with d := hiByte v, e := loByte v }
  | .hl => s.setHl v
  | .af => { s with a := hiByte v }.setF (loByte v)

/-- The second operand of the accumulator group (41_alu8.md R121), read once. -/
def State.src8 (s : State) : Src8 → Byte × State
  | .reg r => (s.reg8 r, s)
  | .atHl => s.memRead s.hl
  | .imm n => (n, s)

/-- 0xFF00 + o, o a byte (30_encoding.md R77). -/
def highPage (o : Byte) : Word := wordOf 0xFF o

/-- The relative target (pc + 2 + sext_16(e8)) & 0xFFFF (43_control.md R151). -/
def State.relTarget (s : State) (e : Byte) : Word := s.pc + 2 + sext16 e

/-- cond(carry_check, zero_check, negate) (43_control.md R147). -/
def evalCond (carryCheck zeroCheck negate : Bool) (g : Flags) : Bool :=
  if !carryCheck && !zeroCheck then true
  else
    let f := if carryCheck then g.c else g.z
    if negate then !f else f

/-- cond of an encoded condition, its three booleans in the order carry check, zero check, negate
(30_encoding.md R76): NZ and Z test Z, NC and C test C. -/
def condHolds (cc : Cond) (g : Flags) : Bool :=
  match cc with
  | .nz => evalCond false true true g   -- not Z
  | .z => evalCond false true false g   -- Z
  | .nc => evalCond true false true g   -- not C
  | .c => evalCond true false false g   -- C

end Sys2Proof.Machine
end

