-- ==== Sys2Proof/Machine/Alu16.lean ====
section
/-! DEFINITION. 16-bit arithmetic (42_alu16.md R143 to R146): what each form does, then one meaning per
instruction. No instruction here writes PC, accesses memory or raises a fault. -/

namespace Sys2Proof.Machine

/-- ADD HL,rr (R143). -/
def addToHl (r : Reg16) (s : State) : State :=
  let (v, g) := add16Flags s.hl (s.reg16 r)
  (s.setHl v).setFlags g

/-- INC rr (R144): no flags. -/
def incrementPair (r : Reg16) (s : State) : State := s.setReg16 r (s.reg16 r + 1)

/-- DEC rr (R145): no flags. -/
def decrementPair (r : Reg16) (s : State) : State := s.setReg16 r (s.reg16 r - 1)

/-- ADD SP,e8 (R146). -/
def addToSp (e : Byte) (s : State) : State :=
  let (v, g) := spDispFlags s.sp e
  { s with sp := v }.setFlags g

/-- INC BC (R144). -/
def execIncBc (s : State) : StepResult := complete .incBc (incrementPair .bc) s

/-- ADD HL,BC (R143). -/
def execAddHlBc (s : State) : StepResult := complete .addHlBc (addToHl .bc) s

/-- DEC BC (R145). -/
def execDecBc (s : State) : StepResult := complete .decBc (decrementPair .bc) s

/-- INC DE (R144). -/
def execIncDe (s : State) : StepResult := complete .incDe (incrementPair .de) s

/-- ADD HL,DE (R143). -/
def execAddHlDe (s : State) : StepResult := complete .addHlDe (addToHl .de) s

/-- DEC DE (R145). -/
def execDecDe (s : State) : StepResult := complete .decDe (decrementPair .de) s

/-- INC HL (R144). -/
def execIncHl (s : State) : StepResult := complete .incHl (incrementPair .hl) s

/-- ADD HL,HL (R143). -/
def execAddHlHl (s : State) : StepResult := complete .addHlHl (addToHl .hl) s

/-- DEC HL (R145). -/
def execDecHl (s : State) : StepResult := complete .decHl (decrementPair .hl) s

/-- INC SP (R144). -/
def execIncSp (s : State) : StepResult := complete .incSp (incrementPair .sp) s

/-- ADD HL,SP (R143). -/
def execAddHlSp (s : State) : StepResult := complete .addHlSp (addToHl .sp) s

/-- DEC SP (R145). -/
def execDecSp (s : State) : StepResult := complete .decSp (decrementPair .sp) s

/-- ADD SP,e8 (R146). -/
def execAddSpE8 (e : Byte) (s : State) : StepResult := complete (.addSpE8 e) (addToSp e) s

end Sys2Proof.Machine
end

