-- ==== Sys2Proof/Machine/Alu8.lean ====
section
/-! DEFINITION. 8-bit arithmetic, logic, rotates and flag operations (41_alu8.md R121 to R142): what
each form does, then one meaning per instruction. No instruction here writes PC or raises a fault. -/

namespace Sys2Proof.Machine

/-- OP A,s (R121 to R130): the operand is read once, before the result is computed. -/
def accumulate (op : AluOp) (src : Src8) (s : State) : State :=
  let (v, s1) := s.src8 src
  let (r, g) := aluApply op s1.a v s1.flags
  { s1 with a := r }.setFlags g

/-- INC r (R131). -/
def incrementReg (r : Reg8) (s : State) : State :=
  let (v, g) := incFlags (s.reg8 r) s.flags
  (s.setReg8 r v).setFlags g

/-- DEC r (R133). -/
def decrementReg (r : Reg8) (s : State) : State :=
  let (v, g) := decFlags (s.reg8 r) s.flags
  (s.setReg8 r v).setFlags g

/-- INC (HL) (R132): one read, then one write of the same address. -/
def incrementAtHl (s : State) : State :=
  let (v, s1) := s.memRead s.hl
  let (t, g) := incFlags v s.flags
  (s1.memWrite s.hl t).setFlags g

/-- DEC (HL) (R134). -/
def decrementAtHl (s : State) : State :=
  let (v, s1) := s.memRead s.hl
  let (t, g) := decFlags v s.flags
  (s1.memWrite s.hl t).setFlags g

/-- A and the flags from a result. -/
def setAcc (s : State) (r : Byte × Flags) : State := { s with a := r.1 }.setFlags r.2

/-- RLCA (R135). -/
def rotateLeftCircular (s : State) : State := setAcc s (rotateLeft s.a (s.a.getLsbD 7))

/-- RLA (R136). -/
def rotateLeftThroughCarry (s : State) : State := setAcc s (rotateLeft s.a s.flags.c)

/-- RRCA (R137). -/
def rotateRightCircular (s : State) : State := setAcc s (rotateRight s.a (s.a.getLsbD 0))

/-- RRA (R138). -/
def rotateRightThroughCarry (s : State) : State := setAcc s (rotateRight s.a s.flags.c)

/-- DAA (R139). -/
def decimalAdjust (s : State) : State := setAcc s (daaFlags s.params s.a s.flags)

/-- CPL (R140): flags - 1 1 -. -/
def complementA (s : State) : State :=
  setAcc s (s.a ^^^ 0xFF, { s.flags with n := true, h := true })

/-- SCF (R141): flags - 0 0 1. -/
def setCarry (s : State) : State :=
  s.setFlags { s.flags with n := false, h := false, c := true }

/-- CCF (R142): flags - 0 0 not C. -/
def complementCarry (s : State) : State :=
  s.setFlags { s.flags with n := false, h := false, c := !s.flags.c }

/-- INC B (R131). -/
def execIncB (s : State) : StepResult := complete .incB (incrementReg .b) s

/-- DEC B (R133). -/
def execDecB (s : State) : StepResult := complete .decB (decrementReg .b) s

/-- RLCA (R135). -/
def execRlca (s : State) : StepResult := complete .rlca rotateLeftCircular s

/-- INC C (R131). -/
def execIncC (s : State) : StepResult := complete .incC (incrementReg .c) s

/-- DEC C (R133). -/
def execDecC (s : State) : StepResult := complete .decC (decrementReg .c) s

/-- RRCA (R137). -/
def execRrca (s : State) : StepResult := complete .rrca rotateRightCircular s

/-- INC D (R131). -/
def execIncD (s : State) : StepResult := complete .incD (incrementReg .d) s

/-- DEC D (R133). -/
def execDecD (s : State) : StepResult := complete .decD (decrementReg .d) s

/-- RLA (R136). -/
def execRla (s : State) : StepResult := complete .rla rotateLeftThroughCarry s

/-- INC E (R131). -/
def execIncE (s : State) : StepResult := complete .incE (incrementReg .e) s

/-- DEC E (R133). -/
def execDecE (s : State) : StepResult := complete .decE (decrementReg .e) s

/-- RRA (R138). -/
def execRra (s : State) : StepResult := complete .rra rotateRightThroughCarry s

/-- INC H (R131). -/
def execIncH (s : State) : StepResult := complete .incH (incrementReg .h) s

/-- DEC H (R133). -/
def execDecH (s : State) : StepResult := complete .decH (decrementReg .h) s

/-- DAA (R139). -/
def execDaa (s : State) : StepResult := complete .daa decimalAdjust s

/-- INC L (R131). -/
def execIncL (s : State) : StepResult := complete .incL (incrementReg .l) s

/-- DEC L (R133). -/
def execDecL (s : State) : StepResult := complete .decL (decrementReg .l) s

/-- CPL (R140). -/
def execCpl (s : State) : StepResult := complete .cpl complementA s

/-- INC (HL) (R132). -/
def execIncAtHl (s : State) : StepResult := complete .incAtHl incrementAtHl s

/-- DEC (HL) (R134). -/
def execDecAtHl (s : State) : StepResult := complete .decAtHl decrementAtHl s

/-- SCF (R141). -/
def execScf (s : State) : StepResult := complete .scf setCarry s

/-- INC A (R131). -/
def execIncA (s : State) : StepResult := complete .incA (incrementReg .a) s

/-- DEC A (R133). -/
def execDecA (s : State) : StepResult := complete .decA (decrementReg .a) s

/-- CCF (R142). -/
def execCcf (s : State) : StepResult := complete .ccf complementCarry s

/-- ADD A,B (R123). -/
def execAddAB (s : State) : StepResult := complete .addAB (accumulate .add (.reg .b)) s

/-- ADD A,C (R123). -/
def execAddAC (s : State) : StepResult := complete .addAC (accumulate .add (.reg .c)) s

/-- ADD A,D (R123). -/
def execAddAD (s : State) : StepResult := complete .addAD (accumulate .add (.reg .d)) s

/-- ADD A,E (R123). -/
def execAddAE (s : State) : StepResult := complete .addAE (accumulate .add (.reg .e)) s

/-- ADD A,H (R123). -/
def execAddAH (s : State) : StepResult := complete .addAH (accumulate .add (.reg .h)) s

/-- ADD A,L (R123). -/
def execAddAL (s : State) : StepResult := complete .addAL (accumulate .add (.reg .l)) s

/-- ADD A,(HL) (R123). -/
def execAddAAtHl (s : State) : StepResult := complete .addAAtHl (accumulate .add .atHl) s

/-- ADD A,A (R123). -/
def execAddAA (s : State) : StepResult := complete .addAA (accumulate .add (.reg .a)) s

/-- ADC A,B (R124). -/
def execAdcAB (s : State) : StepResult := complete .adcAB (accumulate .adc (.reg .b)) s

/-- ADC A,C (R124). -/
def execAdcAC (s : State) : StepResult := complete .adcAC (accumulate .adc (.reg .c)) s

/-- ADC A,D (R124). -/
def execAdcAD (s : State) : StepResult := complete .adcAD (accumulate .adc (.reg .d)) s

/-- ADC A,E (R124). -/
def execAdcAE (s : State) : StepResult := complete .adcAE (accumulate .adc (.reg .e)) s

/-- ADC A,H (R124). -/
def execAdcAH (s : State) : StepResult := complete .adcAH (accumulate .adc (.reg .h)) s

/-- ADC A,L (R124). -/
def execAdcAL (s : State) : StepResult := complete .adcAL (accumulate .adc (.reg .l)) s

/-- ADC A,(HL) (R124). -/
def execAdcAAtHl (s : State) : StepResult := complete .adcAAtHl (accumulate .adc .atHl) s

/-- ADC A,A (R124). -/
def execAdcAA (s : State) : StepResult := complete .adcAA (accumulate .adc (.reg .a)) s

/-- SUB B (R125). -/
def execSubB (s : State) : StepResult := complete .subB (accumulate .sub (.reg .b)) s

/-- SUB C (R125). -/
def execSubC (s : State) : StepResult := complete .subC (accumulate .sub (.reg .c)) s

/-- SUB D (R125). -/
def execSubD (s : State) : StepResult := complete .subD (accumulate .sub (.reg .d)) s

/-- SUB E (R125). -/
def execSubE (s : State) : StepResult := complete .subE (accumulate .sub (.reg .e)) s

/-- SUB H (R125). -/
def execSubH (s : State) : StepResult := complete .subH (accumulate .sub (.reg .h)) s

/-- SUB L (R125). -/
def execSubL (s : State) : StepResult := complete .subL (accumulate .sub (.reg .l)) s

/-- SUB (HL) (R125). -/
def execSubAtHl (s : State) : StepResult := complete .subAtHl (accumulate .sub .atHl) s

/-- SUB A (R125). -/
def execSubA (s : State) : StepResult := complete .subA (accumulate .sub (.reg .a)) s

/-- SBC A,B (R126). -/
def execSbcAB (s : State) : StepResult := complete .sbcAB (accumulate .sbc (.reg .b)) s

/-- SBC A,C (R126). -/
def execSbcAC (s : State) : StepResult := complete .sbcAC (accumulate .sbc (.reg .c)) s

/-- SBC A,D (R126). -/
def execSbcAD (s : State) : StepResult := complete .sbcAD (accumulate .sbc (.reg .d)) s

/-- SBC A,E (R126). -/
def execSbcAE (s : State) : StepResult := complete .sbcAE (accumulate .sbc (.reg .e)) s

/-- SBC A,H (R126). -/
def execSbcAH (s : State) : StepResult := complete .sbcAH (accumulate .sbc (.reg .h)) s

/-- SBC A,L (R126). -/
def execSbcAL (s : State) : StepResult := complete .sbcAL (accumulate .sbc (.reg .l)) s

/-- SBC A,(HL) (R126). -/
def execSbcAAtHl (s : State) : StepResult := complete .sbcAAtHl (accumulate .sbc .atHl) s

/-- SBC A,A (R126). -/
def execSbcAA (s : State) : StepResult := complete .sbcAA (accumulate .sbc (.reg .a)) s

/-- AND B (R127). -/
def execAndB (s : State) : StepResult := complete .andB (accumulate .and (.reg .b)) s

/-- AND C (R127). -/
def execAndC (s : State) : StepResult := complete .andC (accumulate .and (.reg .c)) s

/-- AND D (R127). -/
def execAndD (s : State) : StepResult := complete .andD (accumulate .and (.reg .d)) s

/-- AND E (R127). -/
def execAndE (s : State) : StepResult := complete .andE (accumulate .and (.reg .e)) s

/-- AND H (R127). -/
def execAndH (s : State) : StepResult := complete .andH (accumulate .and (.reg .h)) s

/-- AND L (R127). -/
def execAndL (s : State) : StepResult := complete .andL (accumulate .and (.reg .l)) s

/-- AND (HL) (R127). -/
def execAndAtHl (s : State) : StepResult := complete .andAtHl (accumulate .and .atHl) s

/-- AND A (R127). -/
def execAndA (s : State) : StepResult := complete .andA (accumulate .and (.reg .a)) s

/-- XOR B (R128). -/
def execXorB (s : State) : StepResult := complete .xorB (accumulate .xor (.reg .b)) s

/-- XOR C (R128). -/
def execXorC (s : State) : StepResult := complete .xorC (accumulate .xor (.reg .c)) s

/-- XOR D (R128). -/
def execXorD (s : State) : StepResult := complete .xorD (accumulate .xor (.reg .d)) s

/-- XOR E (R128). -/
def execXorE (s : State) : StepResult := complete .xorE (accumulate .xor (.reg .e)) s

/-- XOR H (R128). -/
def execXorH (s : State) : StepResult := complete .xorH (accumulate .xor (.reg .h)) s

/-- XOR L (R128). -/
def execXorL (s : State) : StepResult := complete .xorL (accumulate .xor (.reg .l)) s

/-- XOR (HL) (R128). -/
def execXorAtHl (s : State) : StepResult := complete .xorAtHl (accumulate .xor .atHl) s

/-- XOR A (R128). -/
def execXorA (s : State) : StepResult := complete .xorA (accumulate .xor (.reg .a)) s

/-- OR B (R129). -/
def execOrB (s : State) : StepResult := complete .orB (accumulate .or (.reg .b)) s

/-- OR C (R129). -/
def execOrC (s : State) : StepResult := complete .orC (accumulate .or (.reg .c)) s

/-- OR D (R129). -/
def execOrD (s : State) : StepResult := complete .orD (accumulate .or (.reg .d)) s

/-- OR E (R129). -/
def execOrE (s : State) : StepResult := complete .orE (accumulate .or (.reg .e)) s

/-- OR H (R129). -/
def execOrH (s : State) : StepResult := complete .orH (accumulate .or (.reg .h)) s

/-- OR L (R129). -/
def execOrL (s : State) : StepResult := complete .orL (accumulate .or (.reg .l)) s

/-- OR (HL) (R129). -/
def execOrAtHl (s : State) : StepResult := complete .orAtHl (accumulate .or .atHl) s

/-- OR A (R129). -/
def execOrA (s : State) : StepResult := complete .orA (accumulate .or (.reg .a)) s

/-- CP B (R130). -/
def execCpB (s : State) : StepResult := complete .cpB (accumulate .cp (.reg .b)) s

/-- CP C (R130). -/
def execCpC (s : State) : StepResult := complete .cpC (accumulate .cp (.reg .c)) s

/-- CP D (R130). -/
def execCpD (s : State) : StepResult := complete .cpD (accumulate .cp (.reg .d)) s

/-- CP E (R130). -/
def execCpE (s : State) : StepResult := complete .cpE (accumulate .cp (.reg .e)) s

/-- CP H (R130). -/
def execCpH (s : State) : StepResult := complete .cpH (accumulate .cp (.reg .h)) s

/-- CP L (R130). -/
def execCpL (s : State) : StepResult := complete .cpL (accumulate .cp (.reg .l)) s

/-- CP (HL) (R130). -/
def execCpAtHl (s : State) : StepResult := complete .cpAtHl (accumulate .cp .atHl) s

/-- CP A (R130). -/
def execCpA (s : State) : StepResult := complete .cpA (accumulate .cp (.reg .a)) s

/-- ADD A,n8 (R123). -/
def execAddAN8 (n : Byte) (s : State) : StepResult := complete (.addAN8 n) (accumulate .add (.imm n)) s

/-- ADC A,n8 (R124). -/
def execAdcAN8 (n : Byte) (s : State) : StepResult := complete (.adcAN8 n) (accumulate .adc (.imm n)) s

/-- SUB n8 (R125). -/
def execSubN8 (n : Byte) (s : State) : StepResult := complete (.subN8 n) (accumulate .sub (.imm n)) s

/-- SBC A,n8 (R126). -/
def execSbcAN8 (n : Byte) (s : State) : StepResult := complete (.sbcAN8 n) (accumulate .sbc (.imm n)) s

/-- AND n8 (R127). -/
def execAndN8 (n : Byte) (s : State) : StepResult := complete (.andN8 n) (accumulate .and (.imm n)) s

/-- XOR n8 (R128). -/
def execXorN8 (n : Byte) (s : State) : StepResult := complete (.xorN8 n) (accumulate .xor (.imm n)) s

/-- OR n8 (R129). -/
def execOrN8 (n : Byte) (s : State) : StepResult := complete (.orN8 n) (accumulate .or (.imm n)) s

/-- CP n8 (R130). -/
def execCpN8 (n : Byte) (s : State) : StepResult := complete (.cpN8 n) (accumulate .cp (.imm n)) s

end Sys2Proof.Machine
end

