-- ==== Sys2Proof/Machine/Control.lean ====
section
/-! DEFINITION. Control transfer (43_control.md R147 to R158): what each form does, then one meaning per
instruction. No instruction here writes flags or raises a fault. -/

namespace Sys2Proof.Machine

/-- pc <- a16 (R148). -/
def jumpTo (target : Word) (s : State) : State := s.jumpTo target

/-- pc <- x[HL] (R150). -/
def jumpToHl (s : State) : State := s.jumpTo s.hl

/-- pc <- (pc + 2 + sext_16(e8)) & 0xFFFF (R151). -/
def jumpRelative (e : Byte) (s : State) : State := s.jumpTo (s.relTarget e)

/-- push16((pc + size) & 0xFFFF); pc <- target (R153, R158). -/
def callTo (size : Word) (target : Word) (s : State) : State :=
  (s.push16 (s.pc + size)).jumpTo target

/-- pc <- pop16() (R155). -/
def returnFromCall (s : State) : State :=
  let (target, s1) := s.pop16
  s1.jumpTo target

/-- if cond(cc) then body (R147, R149, R152, R154, R156). -/
def when (cc : Cond) (body : State → State) (s : State) : State :=
  if condHolds cc s.flags then body s else s

/-- JR e8 (R151). -/
def execJrE8 (e : Byte) (s : State) : StepResult := complete (.jrE8 e) (jumpRelative e) s

/-- JR NZ,e8 (R152). -/
def execJrNzE8 (e : Byte) (s : State) : StepResult := complete (.jrNzE8 e) (when .nz (jumpRelative e)) s

/-- JR Z,e8 (R152). -/
def execJrZE8 (e : Byte) (s : State) : StepResult := complete (.jrZE8 e) (when .z (jumpRelative e)) s

/-- JR NC,e8 (R152). -/
def execJrNcE8 (e : Byte) (s : State) : StepResult := complete (.jrNcE8 e) (when .nc (jumpRelative e)) s

/-- JR C,e8 (R152). -/
def execJrCE8 (e : Byte) (s : State) : StepResult := complete (.jrCE8 e) (when .c (jumpRelative e)) s

/-- RET NZ (R156). -/
def execRetNz (s : State) : StepResult := complete .retNz (when .nz returnFromCall) s

/-- JP NZ,a16 (R149). -/
def execJpNzA16 (a : Word) (s : State) : StepResult := complete (.jpNzA16 a) (when .nz (jumpTo a)) s

/-- JP a16 (R148). -/
def execJpA16 (a : Word) (s : State) : StepResult := complete (.jpA16 a) (jumpTo a) s

/-- CALL NZ,a16 (R154). -/
def execCallNzA16 (a : Word) (s : State) : StepResult := complete (.callNzA16 a) (when .nz (callTo 3 a)) s

/-- RST 00H (R158). -/
def execRst00 (s : State) : StepResult := complete .rst00 (callTo 1 0x0000) s

/-- RET Z (R156). -/
def execRetZ (s : State) : StepResult := complete .retZ (when .z returnFromCall) s

/-- RET (R155). -/
def execRet (s : State) : StepResult := complete .ret returnFromCall s

/-- JP Z,a16 (R149). -/
def execJpZA16 (a : Word) (s : State) : StepResult := complete (.jpZA16 a) (when .z (jumpTo a)) s

/-- CALL Z,a16 (R154). -/
def execCallZA16 (a : Word) (s : State) : StepResult := complete (.callZA16 a) (when .z (callTo 3 a)) s

/-- CALL a16 (R153). -/
def execCallA16 (a : Word) (s : State) : StepResult := complete (.callA16 a) (callTo 3 a) s

/-- RST 08H (R158). -/
def execRst08 (s : State) : StepResult := complete .rst08 (callTo 1 0x0008) s

/-- RET NC (R156). -/
def execRetNc (s : State) : StepResult := complete .retNc (when .nc returnFromCall) s

/-- JP NC,a16 (R149). -/
def execJpNcA16 (a : Word) (s : State) : StepResult := complete (.jpNcA16 a) (when .nc (jumpTo a)) s

/-- CALL NC,a16 (R154). -/
def execCallNcA16 (a : Word) (s : State) : StepResult := complete (.callNcA16 a) (when .nc (callTo 3 a)) s

/-- RST 10H (R158). -/
def execRst10 (s : State) : StepResult := complete .rst10 (callTo 1 0x0010) s

/-- RET C (R156). -/
def execRetC (s : State) : StepResult := complete .retC (when .c returnFromCall) s

/-- RETI (R157). -/
def execReti (s : State) : StepResult := complete .reti State.returnFromInterrupt s

/-- JP C,a16 (R149). -/
def execJpCA16 (a : Word) (s : State) : StepResult := complete (.jpCA16 a) (when .c (jumpTo a)) s

/-- CALL C,a16 (R154). -/
def execCallCA16 (a : Word) (s : State) : StepResult := complete (.callCA16 a) (when .c (callTo 3 a)) s

/-- RST 18H (R158). -/
def execRst18 (s : State) : StepResult := complete .rst18 (callTo 1 0x0018) s

/-- RST 20H (R158). -/
def execRst20 (s : State) : StepResult := complete .rst20 (callTo 1 0x0020) s

/-- JP HL (R150). -/
def execJpHl (s : State) : StepResult := complete .jpHl jumpToHl s

/-- RST 28H (R158). -/
def execRst28 (s : State) : StepResult := complete .rst28 (callTo 1 0x0028) s

/-- RST 30H (R158). -/
def execRst30 (s : State) : StepResult := complete .rst30 (callTo 1 0x0030) s

/-- RST 38H (R158). -/
def execRst38 (s : State) : StepResult := complete .rst38 (callTo 1 0x0038) s

end Sys2Proof.Machine
end

