-- ==== Sys2Proof/Machine/Load.lean ====
section
/-! DEFINITION. Loads, stores and stack operations (40_loads.md R96 to R120): what each form does, then
one meaning per instruction. No instruction here writes PC or raises a fault. -/

namespace Sys2Proof.Machine

/-- x[r] <- x[r'] (R96). -/
def loadReg (dst r : Reg8) (s : State) : State := s.setReg8 dst (s.reg8 r)

/-- x[r] <- n8 (R99). -/
def loadImm (dst : Reg8) (n : Byte) (s : State) : State := s.setReg8 dst n

/-- x[r] <- MemRead(address, 1), the address formed before the write (R97, R101, R102, R109, R112,
R114). -/
def loadFrom (dst : Reg8) (address : State → Word) (s : State) : State :=
  let (v, s1) := s.memRead (address s)
  s1.setReg8 dst v

/-- MemWrite(address, 1, value) (R98, R100, R103, R104, R110, R111, R113). -/
def storeTo (address : State → Word) (value : State → Byte) (s : State) : State :=
  s.memWrite (address s) (value s)

/-- Store A at HL, then HL <- HL + delta, delta being 1 or -1 (R105, R106). -/
def storeThenStepHl (delta : Word) (s : State) : State :=
  (s.memWrite s.hl s.a).setHl (s.hl + delta)

/-- Load A from HL, then HL <- HL + delta (R107, R108). -/
def loadThenStepHl (delta : Word) (s : State) : State :=
  let (v, s1) := s.memRead s.hl
  { s1 with a := v }.setHl (s.hl + delta)

/-- x[rr] <- n16 (R115). -/
def loadPair (r : Reg16) (n : Word) (s : State) : State := s.setReg16 r n

/-- MemWrite(a16, 2, SP) (R116). -/
def storeSp (address : Word) (s : State) : State := s.memWrite16 address s.sp

/-- SP <- x[HL] (R117). -/
def loadSpFromHl (s : State) : State := { s with sp := s.hl }

/-- HL <- SP + e8 with its flags (R118). -/
def loadHlFromSp (e : Byte) (s : State) : State :=
  let (v, g) := spDispFlags s.sp e
  (s.setHl v).setFlags g

/-- push16(x[rr]) (R119). -/
def pushPair (r : Reg16Stk) (s : State) : State := s.push16 (s.regStk r)

/-- x[rr] <- pop16() (R120). -/
def popPair (r : Reg16Stk) (s : State) : State :=
  let (v, s1) := s.pop16
  s1.setRegStk r v

/-- LD BC,n16 (R115). -/
def execLdBcN16 (n : Word) (s : State) : StepResult := complete (.ldBcN16 n) (loadPair .bc n) s

/-- LD (BC),A (R103). -/
def execLdAtBcA (s : State) : StepResult := complete .ldAtBcA (storeTo State.bc State.a) s

/-- LD B,n8 (R99). -/
def execLdBN8 (n : Byte) (s : State) : StepResult := complete (.ldBN8 n) (loadImm .b n) s

/-- LD (a16),SP (R116). -/
def execLdAtA16Sp (a : Word) (s : State) : StepResult := complete (.ldAtA16Sp a) (storeSp a) s

/-- LD A,(BC) (R101). -/
def execLdAAtBc (s : State) : StepResult := complete .ldAAtBc (loadFrom .a State.bc) s

/-- LD C,n8 (R99). -/
def execLdCN8 (n : Byte) (s : State) : StepResult := complete (.ldCN8 n) (loadImm .c n) s

/-- LD DE,n16 (R115). -/
def execLdDeN16 (n : Word) (s : State) : StepResult := complete (.ldDeN16 n) (loadPair .de n) s

/-- LD (DE),A (R104). -/
def execLdAtDeA (s : State) : StepResult := complete .ldAtDeA (storeTo State.de State.a) s

/-- LD D,n8 (R99). -/
def execLdDN8 (n : Byte) (s : State) : StepResult := complete (.ldDN8 n) (loadImm .d n) s

/-- LD A,(DE) (R102). -/
def execLdAAtDe (s : State) : StepResult := complete .ldAAtDe (loadFrom .a State.de) s

/-- LD E,n8 (R99). -/
def execLdEN8 (n : Byte) (s : State) : StepResult := complete (.ldEN8 n) (loadImm .e n) s

/-- LD HL,n16 (R115). -/
def execLdHlN16 (n : Word) (s : State) : StepResult := complete (.ldHlN16 n) (loadPair .hl n) s

/-- LD (HL+),A (R105). -/
def execLdAtHlIncA (s : State) : StepResult := complete .ldAtHlIncA (storeThenStepHl 1) s

/-- LD H,n8 (R99). -/
def execLdHN8 (n : Byte) (s : State) : StepResult := complete (.ldHN8 n) (loadImm .h n) s

/-- LD A,(HL+) (R107). -/
def execLdAAtHlInc (s : State) : StepResult := complete .ldAAtHlInc (loadThenStepHl 1) s

/-- LD L,n8 (R99). -/
def execLdLN8 (n : Byte) (s : State) : StepResult := complete (.ldLN8 n) (loadImm .l n) s

/-- LD SP,n16 (R115). -/
def execLdSpN16 (n : Word) (s : State) : StepResult := complete (.ldSpN16 n) (loadPair .sp n) s

/-- LD (HL-),A (R106). -/
def execLdAtHlDecA (s : State) : StepResult := complete .ldAtHlDecA (storeThenStepHl (-1)) s

/-- LD (HL),n8 (R100). -/
def execLdAtHlN8 (n : Byte) (s : State) : StepResult := complete (.ldAtHlN8 n) (storeTo State.hl (fun _ => n)) s

/-- LD A,(HL-) (R108). -/
def execLdAAtHlDec (s : State) : StepResult := complete .ldAAtHlDec (loadThenStepHl (-1)) s

/-- LD A,n8 (R99). -/
def execLdAN8 (n : Byte) (s : State) : StepResult := complete (.ldAN8 n) (loadImm .a n) s

/-- LD B,B (R96). -/
def execLdBB (s : State) : StepResult := complete .ldBB (loadReg .b .b) s

/-- LD B,C (R96). -/
def execLdBC (s : State) : StepResult := complete .ldBC (loadReg .b .c) s

/-- LD B,D (R96). -/
def execLdBD (s : State) : StepResult := complete .ldBD (loadReg .b .d) s

/-- LD B,E (R96). -/
def execLdBE (s : State) : StepResult := complete .ldBE (loadReg .b .e) s

/-- LD B,H (R96). -/
def execLdBH (s : State) : StepResult := complete .ldBH (loadReg .b .h) s

/-- LD B,L (R96). -/
def execLdBL (s : State) : StepResult := complete .ldBL (loadReg .b .l) s

/-- LD B,(HL) (R97). -/
def execLdBAtHl (s : State) : StepResult := complete .ldBAtHl (loadFrom .b State.hl) s

/-- LD B,A (R96). -/
def execLdBA (s : State) : StepResult := complete .ldBA (loadReg .b .a) s

/-- LD C,B (R96). -/
def execLdCB (s : State) : StepResult := complete .ldCB (loadReg .c .b) s

/-- LD C,C (R96). -/
def execLdCC (s : State) : StepResult := complete .ldCC (loadReg .c .c) s

/-- LD C,D (R96). -/
def execLdCD (s : State) : StepResult := complete .ldCD (loadReg .c .d) s

/-- LD C,E (R96). -/
def execLdCE (s : State) : StepResult := complete .ldCE (loadReg .c .e) s

/-- LD C,H (R96). -/
def execLdCH (s : State) : StepResult := complete .ldCH (loadReg .c .h) s

/-- LD C,L (R96). -/
def execLdCL (s : State) : StepResult := complete .ldCL (loadReg .c .l) s

/-- LD C,(HL) (R97). -/
def execLdCAtHl (s : State) : StepResult := complete .ldCAtHl (loadFrom .c State.hl) s

/-- LD C,A (R96). -/
def execLdCA (s : State) : StepResult := complete .ldCA (loadReg .c .a) s

/-- LD D,B (R96). -/
def execLdDB (s : State) : StepResult := complete .ldDB (loadReg .d .b) s

/-- LD D,C (R96). -/
def execLdDC (s : State) : StepResult := complete .ldDC (loadReg .d .c) s

/-- LD D,D (R96). -/
def execLdDD (s : State) : StepResult := complete .ldDD (loadReg .d .d) s

/-- LD D,E (R96). -/
def execLdDE (s : State) : StepResult := complete .ldDE (loadReg .d .e) s

/-- LD D,H (R96). -/
def execLdDH (s : State) : StepResult := complete .ldDH (loadReg .d .h) s

/-- LD D,L (R96). -/
def execLdDL (s : State) : StepResult := complete .ldDL (loadReg .d .l) s

/-- LD D,(HL) (R97). -/
def execLdDAtHl (s : State) : StepResult := complete .ldDAtHl (loadFrom .d State.hl) s

/-- LD D,A (R96). -/
def execLdDA (s : State) : StepResult := complete .ldDA (loadReg .d .a) s

/-- LD E,B (R96). -/
def execLdEB (s : State) : StepResult := complete .ldEB (loadReg .e .b) s

/-- LD E,C (R96). -/
def execLdEC (s : State) : StepResult := complete .ldEC (loadReg .e .c) s

/-- LD E,D (R96). -/
def execLdED (s : State) : StepResult := complete .ldED (loadReg .e .d) s

/-- LD E,E (R96). -/
def execLdEE (s : State) : StepResult := complete .ldEE (loadReg .e .e) s

/-- LD E,H (R96). -/
def execLdEH (s : State) : StepResult := complete .ldEH (loadReg .e .h) s

/-- LD E,L (R96). -/
def execLdEL (s : State) : StepResult := complete .ldEL (loadReg .e .l) s

/-- LD E,(HL) (R97). -/
def execLdEAtHl (s : State) : StepResult := complete .ldEAtHl (loadFrom .e State.hl) s

/-- LD E,A (R96). -/
def execLdEA (s : State) : StepResult := complete .ldEA (loadReg .e .a) s

/-- LD H,B (R96). -/
def execLdHB (s : State) : StepResult := complete .ldHB (loadReg .h .b) s

/-- LD H,C (R96). -/
def execLdHC (s : State) : StepResult := complete .ldHC (loadReg .h .c) s

/-- LD H,D (R96). -/
def execLdHD (s : State) : StepResult := complete .ldHD (loadReg .h .d) s

/-- LD H,E (R96). -/
def execLdHE (s : State) : StepResult := complete .ldHE (loadReg .h .e) s

/-- LD H,H (R96). -/
def execLdHH (s : State) : StepResult := complete .ldHH (loadReg .h .h) s

/-- LD H,L (R96). -/
def execLdHL (s : State) : StepResult := complete .ldHL (loadReg .h .l) s

/-- LD H,(HL) (R97). -/
def execLdHAtHl (s : State) : StepResult := complete .ldHAtHl (loadFrom .h State.hl) s

/-- LD H,A (R96). -/
def execLdHA (s : State) : StepResult := complete .ldHA (loadReg .h .a) s

/-- LD L,B (R96). -/
def execLdLB (s : State) : StepResult := complete .ldLB (loadReg .l .b) s

/-- LD L,C (R96). -/
def execLdLC (s : State) : StepResult := complete .ldLC (loadReg .l .c) s

/-- LD L,D (R96). -/
def execLdLD (s : State) : StepResult := complete .ldLD (loadReg .l .d) s

/-- LD L,E (R96). -/
def execLdLE (s : State) : StepResult := complete .ldLE (loadReg .l .e) s

/-- LD L,H (R96). -/
def execLdLH (s : State) : StepResult := complete .ldLH (loadReg .l .h) s

/-- LD L,L (R96). -/
def execLdLL (s : State) : StepResult := complete .ldLL (loadReg .l .l) s

/-- LD L,(HL) (R97). -/
def execLdLAtHl (s : State) : StepResult := complete .ldLAtHl (loadFrom .l State.hl) s

/-- LD L,A (R96). -/
def execLdLA (s : State) : StepResult := complete .ldLA (loadReg .l .a) s

/-- LD (HL),B (R98). -/
def execLdAtHlB (s : State) : StepResult := complete .ldAtHlB (storeTo State.hl (fun s => s.reg8 .b)) s

/-- LD (HL),C (R98). -/
def execLdAtHlC (s : State) : StepResult := complete .ldAtHlC (storeTo State.hl (fun s => s.reg8 .c)) s

/-- LD (HL),D (R98). -/
def execLdAtHlD (s : State) : StepResult := complete .ldAtHlD (storeTo State.hl (fun s => s.reg8 .d)) s

/-- LD (HL),E (R98). -/
def execLdAtHlE (s : State) : StepResult := complete .ldAtHlE (storeTo State.hl (fun s => s.reg8 .e)) s

/-- LD (HL),H (R98). -/
def execLdAtHlH (s : State) : StepResult := complete .ldAtHlH (storeTo State.hl (fun s => s.reg8 .h)) s

/-- LD (HL),L (R98). -/
def execLdAtHlL (s : State) : StepResult := complete .ldAtHlL (storeTo State.hl (fun s => s.reg8 .l)) s

/-- LD (HL),A (R98). -/
def execLdAtHlA (s : State) : StepResult := complete .ldAtHlA (storeTo State.hl (fun s => s.reg8 .a)) s

/-- LD A,B (R96). -/
def execLdAB (s : State) : StepResult := complete .ldAB (loadReg .a .b) s

/-- LD A,C (R96). -/
def execLdAC (s : State) : StepResult := complete .ldAC (loadReg .a .c) s

/-- LD A,D (R96). -/
def execLdAD (s : State) : StepResult := complete .ldAD (loadReg .a .d) s

/-- LD A,E (R96). -/
def execLdAE (s : State) : StepResult := complete .ldAE (loadReg .a .e) s

/-- LD A,H (R96). -/
def execLdAH (s : State) : StepResult := complete .ldAH (loadReg .a .h) s

/-- LD A,L (R96). -/
def execLdAL (s : State) : StepResult := complete .ldAL (loadReg .a .l) s

/-- LD A,(HL) (R97). -/
def execLdAAtHl (s : State) : StepResult := complete .ldAAtHl (loadFrom .a State.hl) s

/-- LD A,A (R96). -/
def execLdAA (s : State) : StepResult := complete .ldAA (loadReg .a .a) s

/-- POP BC (R120). -/
def execPopBc (s : State) : StepResult := complete .popBc (popPair .bc) s

/-- PUSH BC (R119). -/
def execPushBc (s : State) : StepResult := complete .pushBc (pushPair .bc) s

/-- POP DE (R120). -/
def execPopDe (s : State) : StepResult := complete .popDe (popPair .de) s

/-- PUSH DE (R119). -/
def execPushDe (s : State) : StepResult := complete .pushDe (pushPair .de) s

/-- LDH (a8),A (R111). -/
def execLdhAtA8A (o : Byte) (s : State) : StepResult := complete (.ldhAtA8A o) (storeTo (fun _ => highPage o) State.a) s

/-- POP HL (R120). -/
def execPopHl (s : State) : StepResult := complete .popHl (popPair .hl) s

/-- LD (C),A (R113). -/
def execLdAtCA (s : State) : StepResult := complete .ldAtCA (storeTo (fun s => highPage s.c) State.a) s

/-- PUSH HL (R119). -/
def execPushHl (s : State) : StepResult := complete .pushHl (pushPair .hl) s

/-- LD (a16),A (R110). -/
def execLdAtA16A (a : Word) (s : State) : StepResult := complete (.ldAtA16A a) (storeTo (fun _ => a) State.a) s

/-- LDH A,(a8) (R112). -/
def execLdhAAtA8 (o : Byte) (s : State) : StepResult := complete (.ldhAAtA8 o) (loadFrom .a (fun _ => highPage o)) s

/-- POP AF (R120). -/
def execPopAf (s : State) : StepResult := complete .popAf (popPair .af) s

/-- LD A,(C) (R114). -/
def execLdAAtC (s : State) : StepResult := complete .ldAAtC (loadFrom .a (fun s => highPage s.c)) s

/-- PUSH AF (R119). -/
def execPushAf (s : State) : StepResult := complete .pushAf (pushPair .af) s

/-- LD HL,SP+e8 (R118). -/
def execLdHlSpE8 (e : Byte) (s : State) : StepResult := complete (.ldHlSpE8 e) (loadHlFromSp e) s

/-- LD SP,HL (R117). -/
def execLdSpHl (s : State) : StepResult := complete .ldSpHl loadSpFromHl s

/-- LD A,(a16) (R109). -/
def execLdAAtA16 (a : Word) (s : State) : StepResult := complete (.ldAAtA16 a) (loadFrom .a (fun _ => a)) s

end Sys2Proof.Machine
end

