-- ==== Sys2Proof/Machine/System.lean ====
section
/-! DEFINITION. System instructions, the excluded prefix and the illegal opcodes (44_system.md R159 to
R165): what each form does, then one meaning per instruction. -/

namespace Sys2Proof.Machine

/-- NOP (R159), and HALT and STOP under the NOP policy: no effect of their own. -/
def doNothing (s : State) : State := s

/-- IME <- v, at once (R160, R161). -/
def setIme (v : Bool) (s : State) : State := { s with ime := v }

/-- HALT and STOP by HALT_STOP_POLICY (R162, R163): under FAULT the opcode has no entry; under NOP it
does nothing, and halted and stopped stay as they are. -/
def haltOrStop (i : Instr) (s : State) : StepResult :=
  match s.params.haltStop with
  | .fault => unimplemented i s
  | .nop => complete i doNothing s

/-- NOP (R159). -/
def execNop (s : State) : StepResult := complete .nop doNothing s

/-- STOP (R163). -/
def execStop (n : Byte) (s : State) : StepResult := haltOrStop (.stop n) s

/-- HALT (R162). -/
def execHalt (s : State) : StepResult := haltOrStop .halt s

/-- PREFIX CB (R164). -/
def execPrefixCb (s : State) : StepResult := unimplemented .prefixCb s

/-- Illegal byte 0xD3 (R165). -/
def execIllegalD3 (s : State) : StepResult := unimplemented .illegalD3 s

/-- Illegal byte 0xDB (R165). -/
def execIllegalDB (s : State) : StepResult := unimplemented .illegalDB s

/-- Illegal byte 0xDD (R165). -/
def execIllegalDD (s : State) : StepResult := unimplemented .illegalDD s

/-- Illegal byte 0xE3 (R165). -/
def execIllegalE3 (s : State) : StepResult := unimplemented .illegalE3 s

/-- Illegal byte 0xE4 (R165). -/
def execIllegalE4 (s : State) : StepResult := unimplemented .illegalE4 s

/-- Illegal byte 0xEB (R165). -/
def execIllegalEB (s : State) : StepResult := unimplemented .illegalEB s

/-- Illegal byte 0xEC (R165). -/
def execIllegalEC (s : State) : StepResult := unimplemented .illegalEC s

/-- Illegal byte 0xED (R165). -/
def execIllegalED (s : State) : StepResult := unimplemented .illegalED s

/-- DI (R160). -/
def execDi (s : State) : StepResult := complete .di (setIme false) s

/-- Illegal byte 0xF4 (R165). -/
def execIllegalF4 (s : State) : StepResult := unimplemented .illegalF4 s

/-- EI (R161). -/
def execEi (s : State) : StepResult := complete .ei (setIme true) s

/-- Illegal byte 0xFC (R165). -/
def execIllegalFC (s : State) : StepResult := unimplemented .illegalFC s

/-- Illegal byte 0xFD (R165). -/
def execIllegalFD (s : State) : StepResult := unimplemented .illegalFD s

end Sys2Proof.Machine
end

