-- ==== Sys2Proof/Machine/Fetch.lean ====
section
/-! DEFINITION. Fetch, lookup and decode of the CPU step (30_encoding.md R86 to R89). -/

namespace Sys2Proof.Machine

/-- faults(op) (30_encoding.md R86): no entry in the size table, or 0x76 or 0x10 under the FAULT
policy. -/
def faults (p : Params) (op : Byte) : Bool :=
  (opSize op).isNone || ((op == 0x76 || op == 0x10) && p.haltStop == .fault)

/-- How many immediate bytes the step reads: none for an opcode that faults at lookup (R88), else the
size less one (R89). -/
def immediatesRead (p : Params) (op : Byte) : Nat :=
  if faults p op then 0 else immediateCount op

/-- Fetch the opcode at PC and its immediates, each by MemRead (R87, R89, R57), and decode. The state
after differs only by device events. An immediate that is not read is given to the decoder as 0: the
opcodes whose immediate is not read fault whatever it is (log entry 11). -/
def fetch (s : State) : Instr × State :=
  let (op, s1) := s.memRead s.pc
  match immediatesRead s.params op with
  | 0 => (decodeOp op 0 0, s1)
  | 1 =>
    let (b1, s2) := s1.memRead (s.pc + 1)
    (decodeOp op b1 0, s2)
  | _ =>
    let (v, s2) := s1.memRead16 (s.pc + 1)
    (decodeOp op (loByte v) (hiByte v), s2)

end Sys2Proof.Machine
end

