-- ==== Sys2Proof/Machine/Render.lean ====
section
/-! DEFINITION. The scanline renderer (60_exceptions.md R183 to R191): background pass, sprite pass,
framebuffer. One call changes the framebuffer row of the line and bg_index, and nothing else. A pass
computes its row of 160 pixels as a list and stores it at once: nothing observes the framebuffer between
two pixels of a call (log entry 14). -/

namespace Sys2Proof.Machine

/-! The framebuffer (10_state.md R36). -/

/-- Row y of the framebuffer. -/
def State.fbRow (s : State) (y : Nat) : List Rgba := s.fb.getD y []

/-- Replace row y of the framebuffer. -/
def State.setFbRow (s : State) (y : Nat) (row : List Rgba) : State := { s with fb := s.fb.set y row }

/-- Byte k of a pixel: R, G, B, A for k = 0, 1, 2, 3. -/
def pixelByte (p : Rgba) (k : Nat) : Byte :=
  match k with
  | 0 => p.red
  | 1 => p.green
  | 2 => p.blue
  | _ => p.alpha

/-- fb[n] of the flat byte sequence: pixel (x, y) is at (y*160 + x)*4 (R36). -/
def State.fbByte (s : State) (n : Nat) : Byte :=
  pixelByte ((s.fbRow (n / 640)).getD (n / 4 % 160) ⟨0, 0, 0, 0⟩) (n % 4)

/-- PALETTE[ci] (R187). -/
def paletteColour (p : Palette) (ci : ColourIndex) : Rgba :=
  match ci.toNat with
  | 0 => p.white
  | 1 => p.lightGray
  | 2 => p.darkGray
  | _ => p.black

/-- The quad put(x, y, ci) writes (R187). -/
def State.colour (s : State) (ci : ColourIndex) : Rgba := paletteColour s.params.palette ci

/-! Reads of the renderer. -/

/-- VRead(a) (R184). Every address the renderer forms is below 0x10000. -/
def State.vread (s : State) (n : Nat) : Byte :=
  if s.blocked (BitVec.ofNat 16 n) then sentinel else s.peek (BitVec.ofNat 16 n)

/-- tile_ci(t, r, p) (R186): bit 7 is the leftmost pixel, plane 1 is the high bit. -/
def State.tileCi (s : State) (t r p : Nat) : ColourIndex :=
  BitVec.ofNat 2 (b2i ((s.vread (t + 2 * r + 1)).getLsbD (7 - p)) * 2 + b2i ((s.vread (t + 2 * r)).getLsbD (7 - p)))

/-- LCDC (10_state.md R40). -/
def lcdcAddr : Word := 0xFF40

/-! Background pass (R188). -/

/-- The base address of the tile map (R188). -/
def tileMapBase (lcdc : Byte) : Nat := if lcdc.getLsbD 3 then 0x9C00 else 0x9800

/-- The address of background tile idx (R188): unsigned from 0x8000, or signed with the +128 bias from
0x8800. -/
def bgTileAddr (lcdc idx : Byte) : Nat :=
  if lcdc.getLsbD 4 then 0x8000 + idx.toNat * 16 else 0x8800 + (idx.toInt + 128).toNat * 16

/-- The background colour index of pixel (x, y) (R188). -/
def State.bgColour (s : State) (lcdc : Byte) (y x : Nat) : ColourIndex :=
  s.tileCi (bgTileAddr lcdc (s.vread (tileMapBase lcdc + y / 8 * 32 + x / 8))) (y % 8) (x % 8)

/-- background_pass(y, lcdc) (R188): all 160 pixels of the row, and bg_index. -/
def State.backgroundPass (s : State) (y : Nat) (lcdc : Byte) : State :=
  let line := (List.range 160).map (s.bgColour lcdc y)
  { s.setFbRow y (line.map s.colour) with bgIndex := line }

/-! Sprite pass (R189 to R191). -/

/-- Byte k of OAM entry i: Y, X, tile, flags (R189). -/
def State.oam (s : State) (i k : Nat) : Byte := s.vread (0xFE00 + 4 * i + k)

/-- The screen row of a sprite's top, Y - 16; may be negative (R190). -/
def State.spriteTop (s : State) (i : Nat) : Int := (s.oam i 0).toNat - 16

/-- The screen column of a sprite's left edge, X - 8; may be negative (R191). -/
def State.spriteLeft (s : State) (i : Nat) : Int := (s.oam i 1).toNat - 8

/-- The sprite height (R190). -/
def spriteHeight (lcdc : Byte) : Nat := if lcdc.getLsbD 2 then 16 else 8

/-- Entry i covers line y (R190). -/
def State.spriteCovers (s : State) (y h i : Nat) : Bool :=
  decide (s.spriteTop i ≤ y ∧ (y : Int) < s.spriteTop i + h)

/-- Insert an entry before the first one whose key is not smaller. -/
def insertByKey (key : Nat → Nat) (i : Nat) : List Nat → List Nat
  | [] => [i]
  | j :: js => if key i ≤ key j then i :: j :: js else j :: insertByKey key i js

/-- Stable sort by a key, ascending: entries of one key keep their order (R190). -/
def sortByKey (key : Nat → Nat) : List Nat → List Nat
  | [] => []
  | i :: is => insertByKey key i (sortByKey key is)

/-- K (R190): the entries drawn on line y, highest priority first, at most ten. -/
def State.spritesOn (s : State) (y h : Nat) : List Nat :=
  (sortByKey (fun i => (s.oam i 1).toNat) ((List.range 40).filter (s.spriteCovers y h))).take 10

/-- The tile row of a sprite on line y, flipped if its flag bit 6 says so (R191). -/
def State.spriteRow (s : State) (i y h : Nat) : Nat :=
  let r := ((y : Int) - s.spriteTop i).toNat
  if (s.oam i 3).getLsbD 6 then h - 1 - r else r

/-- The address of a sprite's tile: always the unbiased base; of an 8 by 16 sprite the even tile of its
pair (R191). -/
def State.spriteTile (s : State) (i h : Nat) : Nat :=
  0x8000 + (if h = 16 then s.oam i 2 &&& 0xFE else s.oam i 2).toNat * 16

/-- What column p of a sprite puts on line y: the screen column and colour index, or nothing where it is
clipped, transparent, or below an opaque background pixel (R191). -/
def State.spritePixel (s : State) (i y h p : Nat) : Option (Nat × ColourIndex) :=
  let sx := s.spriteLeft i + p
  let col := if (s.oam i 3).getLsbD 5 then 7 - p else p
  let ci := s.tileCi (s.spriteTile i h) (s.spriteRow i y h) col
  if sx < 0 ∨ 160 ≤ sx then none
  else if ci = 0 then none
  else if (s.oam i 3).getLsbD 7 ∧ s.bgIndex.getD sx.toNat 0 ≠ 0 then none
  else some (sx.toNat, ci)

/-- draw_sprite(i, y, h) on the row drawn so far (R191). -/
def State.drawSprite (s : State) (y h : Nat) (row : List Rgba) (i : Nat) : List Rgba :=
  (List.range 8).foldl
    (fun row p =>
      match s.spritePixel i y h p with
      | none => row
      | some (x, ci) => row.set x (s.colour ci))
    row

/-- sprite_pass(y, lcdc) (R190): lowest priority drawn first, so the highest remains on top. -/
def State.spritePass (s : State) (y : Nat) (lcdc : Byte) : State :=
  let h := spriteHeight lcdc
  s.setFbRow y ((s.spritesOn y h).reverse.foldl (s.drawSprite y h) (s.fbRow y))

/-- render_scanline() (R185). -/
def State.renderScanline (s : State) : State :=
  if 144 ≤ s.ly then s
  else
    let lcdc := s.peek lcdcAddr
    let s0 := { s with bgIndex := List.replicate 160 0 }
    let s1 := if lcdc.getLsbD 0 then s0.backgroundPass s.ly lcdc else s0
    if lcdc.getLsbD 1 then s1.spritePass s.ly lcdc else s1

end Sys2Proof.Machine
end

