-- ==== Sys2Proof/Machine/Ppu.lean ====
section
/-! DEFINITION. The PPU's mode machine (60_exceptions.md R178 to R181) and the rest of a driving-loop
iteration after the CPU step (R193). -/

namespace Sys2Proof.Machine

/-- STAT (10_state.md R41). -/
def statAddr : Word := 0xFF41

/-- The LY register (10_state.md R42). -/
def lyAddr : Word := 0xFF44

/-- LYC (10_state.md R43). -/
def lycAddr : Word := 0xFF45

/-- The mode number of STAT bits 1..0 (10_state.md R41). -/
def Mode.number : Mode → Nat
  | .hblank => 0
  | .vblank => 1
  | .oamSearch => 2
  | .pixelTransfer => 3

/-- The STAT byte the PPU writes (R180): bits 7..3 by STAT_WRITE_POLICY, bit 2 the LY-compare, bits
1..0 the mode. -/
def State.statByte (s : State) : Byte :=
  let upper : Byte :=
    match s.params.statWrite with
    | .preserveUpper => s.peek statAddr &&& 0xF8
    | .overwrite => 0
  upper ||| BitVec.ofNat 8 (b2i (s.ly == (s.peek lycAddr).toNat) * 4 + s.mode.number)

/-- write_stat_ly() (R180). -/
def State.writeStatLy (s : State) : State :=
  (s.poke statAddr s.statByte).poke lyAddr (BitVec.ofNat 8 s.ly)

/-- The request for VBlank: IF bit 0 (R181). -/
def State.requestVblank (s : State) : State := s.poke ifAddr (s.peek ifAddr ||| 0x01)

/-- vblank_step() (R179). -/
def State.vblankStep (s : State) : State :=
  match s.params.vblank with
  | .coarse => if 4560 ≤ s.acc then { s with acc := 0, ly := 0, mode := .oamSearch } else s
  | .perLine =>
    if 456 ≤ s.acc then
      (if s.ly + 1 = 154 then { s with acc := 0, ly := 0, mode := .oamSearch }
       else { s with acc := 0, ly := s.ly + 1 })
    else s

/-- The HBLANK transition (R178, R181): the next line, or VBLANK and its request. -/
def State.hblankStep (s : State) : State :=
  if 204 ≤ s.acc then
    (if s.ly + 1 < 144 then { s with acc := 0, ly := s.ly + 1, mode := .oamSearch }
     else { s with acc := 0, ly := s.ly + 1, mode := .vblank }.requestVblank)
  else s

/-- At most one transition, by the mode and the accumulator (R178); the overshoot is discarded. -/
def State.modeStep (s : State) : State :=
  match s.mode with
  | .oamSearch => if 80 ≤ s.acc then { s with mode := .pixelTransfer, acc := 0 } else s
  | .pixelTransfer =>
    if 172 ≤ s.acc then { s with mode := .hblank, acc := 0 }.renderScanline else s
  | .hblank => s.hblankStep
  | .vblank => s.vblankStep

/-- ppu_step(c) (R178). -/
def State.ppuStep (s : State) (elapsed : Nat) : State :=
  { s with acc := s.acc + elapsed }.modeStep.writeStatLy

/-- The rest of an iteration after the CPU step of instruction i (R193): nothing if it raised a fault
(R167); else the PPU step with its count, the collaborators' requests, the interrupt check. -/
def State.finishIteration (s : State) (i : Instr) : State :=
  if s.fault.isSome then s
  else ((s.ppuStep (cyclesOf s.params i.opcode)).externalRequests).handleInterrupts

end Sys2Proof.Machine
end

