-- ==== Sys2Proof/Machine/Step.lean ====
section
/-! DEFINITION. One step of the machine: one driving-loop iteration (60_exceptions.md R193). -/

namespace Sys2Proof.Machine

/-- One iteration: the CPU step (fetch, decode, exec), the PPU step, the collaborators' requests, the
interrupt check. A state that holds a fault record takes no step (10_state.md R32; 60_exceptions.md
R167); a step that raises a fault answers the state that holds the record (log entry 7). -/
def step (s : State) : Host.Outcome State Fault Refusal :=
  match s.fault with
  | some r => .fault (.machineFaulted r)
  | none =>
    match exec (fetch s).1 (fetch s).2 with
    | .next t => .next (t.finishIteration (fetch s).1)
    | .fault r => .fault r
    | .refused r => .refused r

/-- s with the instruction word w of nbits bits (numbered as spec/opcode_table.json numbers them, the
bits above nbits zero) stored at PC, PC + 1 and PC + 2, where step fetches (log entry 2). -/
def State.withFetchWord (s : State) (nbits w : Nat) : State :=
  let v := w % 2 ^ nbits
  ((s.poke s.pc (BitVec.ofNat 8 v)).poke (s.pc + 1) (BitVec.ofNat 8 (v / 256))).poke (s.pc + 2)
    (BitVec.ofNat 8 (v / 65536))

end Sys2Proof.Machine
end

