-- ==== Sys2Proof/Safety.lean ====
section
/-! DEFINITION. What counts as a safe state, and the end of a run (70_reset_and_hazards.md R201). -/

namespace Sys2Proof.Machine

/-- No fault was raised (70_reset_and_hazards.md R201: a faulted run refutes a claim that assumes
none). -/
def State.faultFree (s : State) : Prop := s.fault = none

/-- F's low nibble is zero (10_state.md R19). -/
def State.flagsCanonical (s : State) : Prop := s.f &&& 0x0F = 0

/-- The memory is in its canonical form. -/
def State.memoryCanonical (s : State) : Prop := s.mem.wf = true

/-- LY is below 154 and at least 144 exactly in VBLANK (10_state.md R34; 90_conflicts.md C7). -/
def State.scanlineLegal (s : State) : Prop := s.ly < 154 ∧ (144 ≤ s.ly ↔ s.mode = .vblank)

/-- The framebuffer has 144 rows of 160 pixels and bg_index 160 entries (10_state.md R36, R37). -/
def State.screenShaped (s : State) : Prop :=
  s.fb.length = 144 ∧ (∀ row ∈ s.fb, row.length = 160) ∧ s.bgIndex.length = 160

/-- The end of a run (70_reset_and_hazards.md R201): no fault, IME false, and the instruction at PC is
JR -2, outside video RAM and object attribute memory. -/
def State.ended (s : State) : Prop :=
  s.fault = none ∧ s.ime = false ∧ gated s.pc = false ∧ gated (s.pc + 1) = false ∧
    s.peek s.pc = 0x18 ∧ s.peek (s.pc + 1) = 0xFE

end Sys2Proof.Machine
end

