-- ==== Sys2Proof/Certificates/Slice0/Obligations.lean ====
section
/-! DEFINITION. The statements for the provers. Sys2Proof.Spec is the vocabulary they are written in: the
opcode fields and flag bits of the spec, the end of an instruction, and, for the frames, what each
instruction writes. Flags, selectors and operands are said here in the spec's own terms, not through the
model's flag and decode functions. What the spec marks as its own inference is named where a statement
rests on it: the opcode values and field layouts are its general-knowledge passages (30_encoding.md R73 to
R78, 93 G1; log entry 10). A fault is a next state that holds its record (log entry 7). -/

namespace Sys2Proof.Spec

open Sys2Proof.Machine

/-! Opcode fields (30_encoding.md R73 to R76). -/

/-- The opcode byte x:y:z. -/
def op3 (x y z : Nat) : Byte := BitVec.ofNat 8 (x * 64 + y * 8 + z)

/-- The selector of an 8-bit register (R74). -/
def sel : Reg8 → Nat
  | .b => 0
  | .c => 1
  | .d => 2
  | .e => 3
  | .h => 4
  | .l => 5
  | .a => 7

/-- The pair field of the SP set (R75). -/
def pairNo : Reg16 → Nat
  | .bc => 0
  | .de => 1
  | .hl => 2
  | .sp => 3

/-- The pair field of the AF set (R75). -/
def stkNo : Reg16Stk → Nat
  | .bc => 0
  | .de => 1
  | .hl => 2
  | .af => 3

/-- The condition field (R76). -/
def condNo : Cond → Nat
  | .nz => 0
  | .z => 1
  | .nc => 2
  | .c => 3

/-- The operation field of the accumulator group (41_alu8.md R121). -/
def aluNo : AluOp → Nat
  | .add => 0
  | .adc => 1
  | .sub => 2
  | .sbc => 3
  | .and => 4
  | .xor => 5
  | .or => 6
  | .cp => 7

/-- v[7:0]. -/
def low (v : Word) : Byte := v.extractLsb' 0 8

/-- v[15:8]. -/
def high (v : Word) : Byte := v.extractLsb' 8 8

/-! Flags (10_state.md R20). -/

def zf (s : State) : Bool := s.f.getLsbD 7
def nf (s : State) : Bool := s.f.getLsbD 6
def hf (s : State) : Bool := s.f.getLsbD 5
def cf (s : State) : Bool := s.f.getLsbD 4

/-- A boolean as 0 or 1. -/
def bit (b : Bool) : Nat := if b then 1 else 0

/-- The byte with Z, N, H, C in bits 7..4 and a zero low nibble. -/
def flagByte (z n h c : Bool) : Byte :=
  BitVec.ofBool z ++ BitVec.ofBool n ++ BitVec.ofBool h ++ BitVec.ofBool c ++ 0#4

/-- A condition's meaning, the last column of R76. -/
def holds (cc : Cond) (s : State) : Bool :=
  match cc with
  | .nz => !zf s
  | .z => zf s
  | .nc => !cf s
  | .c => cf s

/-! The end of an instruction (30_encoding.md R91, R92). -/

/-- The instruction of opcode op and the given size falls through. -/
def passed (op : Byte) (size : Nat) (t : State) : State :=
  { t with
    pc := t.pc + BitVec.ofNat 16 size
    pcWritten := false
    cycles := t.cycles + t.params.cycles.getD op.toNat 0 }

/-- The instruction of opcode op transfers control. -/
def jumped (op : Byte) (target : Word) (t : State) : State :=
  { t with pc := target, pcWritten := false, cycles := t.cycles + t.params.cycles.getD op.toNat 0 }

/-- Instruction i is encoded as bytes, has the default base count, and in every state answers a next
state: its effect, then PC past its bytes and the count added. -/
def Completes (i : Instr) (bytes : List Byte) (count : Nat) (effect : State → State) : Prop :=
  encode i = bytes ∧ defaultParams.cycles.getD (bytes.headD 0).toNat 0 = count ∧
    ∀ s, exec i s = .next (passed (bytes.headD 0) bytes.length (effect s))

/-- Control transfer i is encoded as bytes, has the default base count, and in every state answers a next
state: its effect and PC at the target where there is one, else only PC past its bytes; the count added
either way. -/
def Jumps (i : Instr) (bytes : List Byte) (count : Nat) (effect : State → State)
    (target : State → Option Word) : Prop :=
  encode i = bytes ∧ defaultParams.cycles.getD (bytes.headD 0).toNat 0 = count ∧
    ∀ s, exec i s = .next
      (match target s with
       | some x => jumped (bytes.headD 0) x (effect s)
       | none => passed (bytes.headD 0) bytes.length s)

/-! Operands. -/

/-- The second operand of the accumulator group and the state after it is read (41_alu8.md R121). -/
def operand (src : Src8) (s : State) : Byte × State :=
  match src with
  | .reg r => (s.reg8 r, s)
  | .atHl => s.memRead s.hl
  | .imm n => (n, s)

/-- The bytes of an accumulator operation (R121). -/
def aluBytes (op : AluOp) (src : Src8) : List Byte :=
  match src with
  | .reg r => [op3 2 (aluNo op) (sel r)]
  | .atHl => [op3 2 (aluNo op) 6]
  | .imm n => [op3 3 (aluNo op) 6, n]

/-- Its base count (R121). -/
def aluCount (src : Src8) : Nat :=
  match src with
  | .reg _ => 4
  | .atHl => 8
  | .imm _ => 8

/-- The address is neither closed by the gate nor a collaborator's (20_memory.md R54, R55). -/
def plain (s : State) (x : Word) : Prop := s.blocked x = false ∧ x ∉ s.params.deviceAddrs

/-! What each instruction writes, for the frames. -/

/-- The 8-bit registers the instruction writes besides F: its destination, and HL where it steps HL
(40_loads.md, 41_alu8.md, 42_alu16.md). -/
def dests : Instr → List Reg8
  | .ldBcN16 _ | .incBc | .decBc | .popBc => [.b, .c]
  | .incB | .decB | .ldBN8 _ | .ldBB | .ldBC | .ldBD | .ldBE | .ldBH | .ldBL | .ldBAtHl | .ldBA => [.b]
  | .rlca | .ldAAtBc | .rrca | .rla | .ldAAtDe | .rra | .daa | .cpl | .incA | .decA | .ldAN8 _ | .ldAB | .ldAC
    | .ldAD | .ldAE | .ldAH | .ldAL | .ldAAtHl | .ldAA | .addAB | .addAC | .addAD | .addAE | .addAH | .addAL
    | .addAAtHl | .addAA | .adcAB | .adcAC | .adcAD | .adcAE | .adcAH | .adcAL | .adcAAtHl | .adcAA | .subB
    | .subC | .subD | .subE | .subH | .subL | .subAtHl | .subA | .sbcAB | .sbcAC | .sbcAD | .sbcAE | .sbcAH
    | .sbcAL | .sbcAAtHl | .sbcAA | .andB | .andC | .andD | .andE | .andH | .andL | .andAtHl | .andA | .xorB
    | .xorC | .xorD | .xorE | .xorH | .xorL | .xorAtHl | .xorA | .orB | .orC | .orD | .orE | .orH | .orL
    | .orAtHl | .orA | .addAN8 _ | .adcAN8 _ | .subN8 _ | .sbcAN8 _ | .andN8 _ | .xorN8 _ | .ldhAAtA8 _
    | .popAf | .ldAAtC | .orN8 _ | .ldAAtA16 _ => [.a]
  | .addHlBc | .addHlDe | .ldHlN16 _ | .ldAtHlIncA | .incHl | .addHlHl | .decHl | .ldAtHlDecA | .addHlSp
    | .popHl | .ldHlSpE8 _ => [.h, .l]
  | .incC | .decC | .ldCN8 _ | .ldCB | .ldCC | .ldCD | .ldCE | .ldCH | .ldCL | .ldCAtHl | .ldCA => [.c]
  | .ldDeN16 _ | .incDe | .decDe | .popDe => [.d, .e]
  | .incD | .decD | .ldDN8 _ | .ldDB | .ldDC | .ldDD | .ldDE | .ldDH | .ldDL | .ldDAtHl | .ldDA => [.d]
  | .incE | .decE | .ldEN8 _ | .ldEB | .ldEC | .ldED | .ldEE | .ldEH | .ldEL | .ldEAtHl | .ldEA => [.e]
  | .incH | .decH | .ldHN8 _ | .ldHB | .ldHC | .ldHD | .ldHE | .ldHH | .ldHL | .ldHAtHl | .ldHA => [.h]
  | .ldAAtHlInc | .ldAAtHlDec => [.a, .h, .l]
  | .incL | .decL | .ldLN8 _ | .ldLB | .ldLC | .ldLD | .ldLE | .ldLH | .ldLL | .ldLAtHl | .ldLA => [.l]
  | _ => []

/-- The instructions that write flags: the table of 10_state.md R21. -/
def writesFlags : Instr → Bool
  | .incB | .decB | .rlca | .addHlBc | .incC | .decC | .rrca | .incD | .decD | .rla | .addHlDe | .incE | .decE
    | .rra | .incH | .decH | .daa | .addHlHl | .incL | .decL | .cpl | .incAtHl | .decAtHl | .scf | .addHlSp
    | .incA | .decA | .ccf | .addAB | .addAC | .addAD | .addAE | .addAH | .addAL | .addAAtHl | .addAA | .adcAB
    | .adcAC | .adcAD | .adcAE | .adcAH | .adcAL | .adcAAtHl | .adcAA | .subB | .subC | .subD | .subE | .subH
    | .subL | .subAtHl | .subA | .sbcAB | .sbcAC | .sbcAD | .sbcAE | .sbcAH | .sbcAL | .sbcAAtHl | .sbcAA
    | .andB | .andC | .andD | .andE | .andH | .andL | .andAtHl | .andA | .xorB | .xorC | .xorD | .xorE | .xorH
    | .xorL | .xorAtHl | .xorA | .orB | .orC | .orD | .orE | .orH | .orL | .orAtHl | .orA | .cpB | .cpC | .cpD
    | .cpE | .cpH | .cpL | .cpAtHl | .cpA | .addAN8 _ | .adcAN8 _ | .subN8 _ | .sbcAN8 _ | .andN8 _
    | .addSpE8 _ | .xorN8 _ | .popAf | .orN8 _ | .ldHlSpE8 _ | .cpN8 _ => true
  | _ => false

/-- The instructions that write SP (10_state.md R26). The conditional ones write it only when taken. -/
def writesSp : Instr → Bool
  | .ldSpN16 _ | .incSp | .decSp | .retNz | .popBc | .callNzA16 _ | .pushBc | .rst00 | .retZ | .ret
    | .callZA16 _ | .callA16 _ | .rst08 | .retNc | .popDe | .callNcA16 _ | .pushDe | .rst10 | .retC | .reti
    | .callCA16 _ | .rst18 | .popHl | .pushHl | .rst20 | .addSpE8 _ | .rst28 | .popAf | .pushAf | .rst30
    | .ldSpHl | .rst38 => true
  | _ => false

/-- The control transfers (43_control.md). -/
def transfers : Instr → Bool
  | .jrE8 _ | .jrNzE8 _ | .jrZE8 _ | .jrNcE8 _ | .jrCE8 _ | .retNz | .jpNzA16 _ | .jpA16 _ | .callNzA16 _
    | .rst00 | .retZ | .ret | .jpZA16 _ | .callZA16 _ | .callA16 _ | .rst08 | .retNc | .jpNcA16 _
    | .callNcA16 _ | .rst10 | .retC | .reti | .jpCA16 _ | .callCA16 _ | .rst18 | .rst20 | .jpHl | .rst28
    | .rst30 | .rst38 => true
  | _ => false

/-- The addresses of the bytes the instruction stores to, in the state it starts from (20_memory.md R62). -/
def stores (i : Instr) (s : State) : List Word :=
  match i with
  | .ldAtBcA => [s.bc]
  | .ldAtA16Sp a => [a, a + 1]
  | .ldAtDeA => [s.de]
  | .ldAtHlIncA | .ldAtHlDecA | .incAtHl | .decAtHl | .ldAtHlN8 _ | .ldAtHlB | .ldAtHlC | .ldAtHlD | .ldAtHlE
    | .ldAtHlH | .ldAtHlL | .ldAtHlA => [s.hl]
  | .callNzA16 _ => if holds .nz s then [s.sp - 1, s.sp - 2] else []
  | .pushBc | .rst00 | .callA16 _ | .rst08 | .pushDe | .rst10 | .rst18 | .pushHl | .rst20 | .rst28 | .pushAf
    | .rst30 | .rst38 => [s.sp - 1, s.sp - 2]
  | .callZA16 _ => if holds .z s then [s.sp - 1, s.sp - 2] else []
  | .callNcA16 _ => if holds .nc s then [s.sp - 1, s.sp - 2] else []
  | .callCA16 _ => if holds .c s then [s.sp - 1, s.sp - 2] else []
  | .ldhAtA8A o => [highPage o]
  | .ldAtCA => [highPage s.c]
  | .ldAtA16A a => [a]
  | _ => []

/-! Memory traffic of the loads and stores, in terms of the access primitives. -/

/-- x[r] <- MemRead(address, 1). -/
def load (r : Reg8) (address : State → Word) (s : State) : State :=
  (s.memRead (address s)).2.setReg8 r (s.memRead (address s)).1

/-- push16(v) as 40_loads.md R94 writes it. -/
def push (v : Word) (s : State) : State :=
  { (s.memWrite (s.sp - 1) (high v)).memWrite (s.sp - 2) (low v) with sp := s.sp - 2 }

/-- The word pop16() reads, low byte first (R95). -/
def popped (s : State) : Word :=
  let lo := s.memRead s.sp
  let hi := lo.2.memRead (s.sp + 1)
  hi.1 ++ lo.1

/-- The state after pop16() (R95). -/
def pop (s : State) : State :=
  { ((s.memRead s.sp).2.memRead (s.sp + 1)).2 with sp := s.sp + 2 }

/-! The screen. -/

/-- A row of 160 pixels in the framebuffer, for a visible line. -/
def pixel (s : State) (x y : Nat) : Rgba := (s.fb.getD y []).getD x ⟨0, 0, 0, 0⟩

/-- VRead (60_exceptions.md R184). -/
def vread (s : State) (n : Nat) : Byte :=
  if s.blocked (BitVec.ofNat 16 n) then 0xFF else s.peek (BitVec.ofNat 16 n)

/-- PALETTE[ci] (R187). -/
def shade (p : Palette) : ColourIndex → Rgba
  | 0 => p.white
  | 1 => p.lightGray
  | 2 => p.darkGray
  | 3 => p.black

/-- tile_ci(t, r, p) (R186). -/
def tilePixel (s : State) (t r p : Nat) : ColourIndex :=
  BitVec.ofBool ((vread s (t + 2 * r + 1)).getLsbD (7 - p)) ++ BitVec.ofBool ((vread s (t + 2 * r)).getLsbD (7 - p))

/-- The tile map's base (R188). -/
def mapBase (lcdc : Byte) : Nat := if lcdc.getLsbD 3 then 0x9C00 else 0x9800

/-- The tile of map index idx (R188). -/
def tileBase (lcdc idx : Byte) : Nat :=
  if lcdc.getLsbD 4 then 0x8000 + idx.toNat * 16
  else if idx.toNat < 128 then 0x9000 + idx.toNat * 16 else 0x8800 + (idx.toNat - 128) * 16

/-- The background colour index of pixel (x, y) (R188). -/
def background (s : State) (lcdc : Byte) (x y : Nat) : ColourIndex :=
  tilePixel s (tileBase lcdc (vread s (mapBase lcdc + y / 8 * 32 + x / 8))) (y % 8) (x % 8)

/-- Byte k of OAM entry i (R189). -/
def oamByte (s : State) (i k : Nat) : Byte := vread s (0xFE00 + 4 * i + k)

/-- Entry i is one of the 40 and covers line y at height h (R190): its top is Y - 16. -/
def covers (s : State) (y h i : Nat) : Prop :=
  i < 40 ∧ (oamByte s i 0).toNat ≤ y + 16 ∧ y + 16 < (oamByte s i 0).toNat + h

/-- Entry i comes before entry j: lower X, or the same X and the lower index (R190). -/
def before (s : State) (i j : Nat) : Prop :=
  (oamByte s i 1).toNat < (oamByte s j 1).toNat ∨ (oamByte s i 1 = oamByte s j 1 ∧ i < j)

/-- What entry i puts on column x of line y, if anything, where the background index of the column is
below (R191). -/
def spriteAt (s : State) (below : ColourIndex) (y h i x : Nat) : Option ColourIndex :=
  let left := (oamByte s i 1).toNat
  let flags := oamByte s i 3
  let row := y + 16 - (oamByte s i 0).toNat
  let tile := if h = 16 then oamByte s i 2 &&& 0xFE else oamByte s i 2
  if left ≤ x + 8 ∧ x < left then
    let p := x + 8 - left
    let ci := tilePixel s (0x8000 + tile.toNat * 16) (if flags.getLsbD 6 then h - 1 - row else row)
      (if flags.getLsbD 5 then 7 - p else p)
    if ci = 0 ∨ (flags.getLsbD 7 = true ∧ below ≠ 0) then none else some ci
  else none

/-- The sprite height of LCDC bit 2 (R190). -/
def heightOf (lcdc : Byte) : Nat := if lcdc.getLsbD 2 then 16 else 8

/-- The colour index the sprites of line y put on column x, if any: that of the first kept entry that puts
one there (R190, R191; 90_conflicts.md C9). -/
def spritesAt (s : State) (lcdc : Byte) (below : ColourIndex) (y x : Nat) : Option ColourIndex :=
  (s.spritesOn y (heightOf lcdc)).findSome? (fun i => spriteAt s below y (heightOf lcdc) i x)

/-! Steps. -/

/-- n bytes from x on, each by MemRead in this order, and the state after them (30_encoding.md R87, R89). -/
def fetchBytes : Nat → Word → State → List Byte × State
  | 0, _, s => ([], s)
  | n + 1, x, s =>
    let first := s.memRead x
    let others := fetchBytes n (x + 1) first.2
    (first.1 :: others.1, others.2)

/-- A driving-loop iteration after its CPU step has answered t, for the instruction i (60_exceptions.md R193,
R167): nothing where that raised a fault; else the PPU step with i's count, the collaborators' requests and
the interrupt check. -/
def iterationEnd (i : Instr) (t : State) : State :=
  if t.fault.isSome then t
  else ((t.ppuStep (t.params.cycles.getD i.opcode.toNat 0)).externalRequests).handleInterrupts

/-! What every step keeps. -/

/-- The invariants of the machine (10_state.md R19, R34, R36, R37; log entry 1 for the memory's form),
and pc_written false between steps (R31). -/
structure Invariant (s : State) : Prop where
  memory : s.memoryCanonical
  flags : s.flagsCanonical
  scanline : s.scanlineLegal
  screen : s.screenShaped
  stepLocal : s.pcWritten = false

/-- The three bytes the PPU and the requests rewrite (70_reset_and_hazards.md R201). -/
def rewritten (x : Word) : Prop := x = 0xFF0F ∨ x = 0xFF41 ∨ x = 0xFF44

/-- Two states that differ at most in the bytes of video RAM and object attribute memory. -/
def SameOutsideGate (s t : State) : Prop :=
  t = { s with mem := t.mem } ∧ ∀ x, gated x = false → t.peek x = s.peek x

end Sys2Proof.Spec

open Sys2Proof Sys2Proof.Machine Sys2Proof.Spec

/-! ## Encoding -/

/-- Decoding the encoding of any instruction gives it back with the bytes after it: no bit is dropped
(30_encoding.md R72, R73, R77, R78). -/
def Obligations.DecodeOfEncodeIsIdentity : Prop :=
  ∀ (i : Instr) (rest : List Byte), decode (encode i ++ rest) = .ok (i, rest)

/-- Whatever bytes decode to an instruction begin with its encoding, so each byte sequence has one reading
(30_encoding.md R72, R77, R78). -/
def Obligations.DecodedBytesAreTheEncoding : Prop :=
  ∀ (bytes rest : List Byte) (i : Instr), decode bytes = .ok (i, rest) → bytes = encode i ++ rest

/-- Every byte at PC has a verdict: its row's instruction completes, whatever the state, under the NOP
policy, or its row raises UnimplementedOpcode and writes nothing else; the faulting rows are those of R81,
0xCB, and under the FAULT policy 0x10 and 0x76 (30_encoding.md R83, which the spec marks derived from R78
and R81; R86 for faults(op); the record in a next state is log entry 7). -/
def Obligations.EveryOpcodeByteHasAVerdict : Prop :=
  ∀ (op b1 b2 : Byte), ∃ i rest, decode [op, b1, b2] = .ok (i, rest) ∧ i.opcode = op ∧
    ∀ s : State,
      if op ∈ [0xD3, 0xDB, 0xDD, 0xE3, 0xE4, 0xEB, 0xEC, 0xED, 0xF4, 0xFC, 0xFD, 0xCB] ∨
          (op ∈ [0x10, 0x76] ∧ s.params.haltStop = .fault) then
        exec i s = .next { s with fault := some ⟨.unimplementedOpcode, op, s.pc⟩ }
      else ∃ t, exec i s = .next t ∧ t.fault = s.fault ∧
        t.cycles = s.cycles + s.params.cycles.getD op.toNat 0

/-- The source's two opcodes by value, and one word of each family, decode to the instruction the grid of
30_encoding.md R78 names. Bits count from the first byte. -/
def Obligations.SampleWordsDecodeAsTheSpecPrints : Prop :=
  decodeTableWord 16 0x423E = some (.ldAN8 0x42) ∧ decodeTableWord 24 0x1234C3 = some (.jpA16 0x1234) ∧
    decodeTableWord 8 0x8B = some .adcAE ∧ decodeTableWord 8 0x39 = some .addHlSp ∧
    decodeTableWord 16 0xFE18 = some (.jrE8 0xFE) ∧ decodeTableWord 24 0xC10008 = some (.ldAtA16Sp 0xC100) ∧
    decodeTableWord 8 0xFB = some .ei ∧ decodeTableWord 8 0xCB = some .prefixCb

/-! ## Registers -/

/-- The register file: seven 8-bit registers and SP, each written alone, F and all else left; and the pair
views, which are not separate storage: what each pair reads, and which registers, high byte first, a write
of it sets. A write of F through AF drops the low nibble (10_state.md R17, R18, R19, R21). -/
def Obligations.RegisterFileAndPairViews : Prop :=
  (∀ (s : State) (r r' : Reg8) (v : Byte), (s.setReg8 r v).reg8 r' = if r' = r then v else s.reg8 r') ∧
    (∀ (s : State) (r : Reg8), s.reg8 r =
      match r with
      | .a => s.a
      | .b => s.b
      | .c => s.c
      | .d => s.d
      | .e => s.e
      | .h => s.h
      | .l => s.l) ∧
    (∀ (s : State) (r : Reg8) (v : Byte), s.setReg8 r v =
      match r with
      | .a => { s with a := v }
      | .b => { s with b := v }
      | .c => { s with c := v }
      | .d => { s with d := v }
      | .e => { s with e := v }
      | .h => { s with h := v }
      | .l => { s with l := v }) ∧
    (∀ s : State, s.bc = s.b ++ s.c ∧ s.de = s.d ++ s.e ∧ s.hl = s.h ++ s.l ∧ s.af = s.a ++ s.f) ∧
    (∀ (s : State) (r : Reg16), s.reg16 r =
      match r with
      | .bc => s.b ++ s.c
      | .de => s.d ++ s.e
      | .hl => s.h ++ s.l
      | .sp => s.sp) ∧
    (∀ (s : State) (r : Reg16Stk), s.regStk r =
      match r with
      | .bc => s.b ++ s.c
      | .de => s.d ++ s.e
      | .hl => s.h ++ s.l
      | .af => s.a ++ s.f) ∧
    (∀ (s : State) (r : Reg16) (v : Word), s.setReg16 r v =
      match r with
      | .bc => { s with b := high v, c := low v }
      | .de => { s with d := high v, e := low v }
      | .hl => { s with h := high v, l := low v }
      | .sp => { s with sp := v }) ∧
    (∀ (s : State) (r : Reg16Stk) (v : Word), s.setRegStk r v =
      match r with
      | .bc => { s with b := high v, c := low v }
      | .de => { s with d := high v, e := low v }
      | .hl => { s with h := high v, l := low v }
      | .af => { s with a := high v, f := low v &&& 0xF0 }) ∧
    (∀ (s : State) (r : Reg16) (v : Word), (s.setReg16 r v).reg16 r = v) ∧
    (∀ (s : State) (v : Word), (s.setRegStk .af v).af = v &&& 0xFFF0)

/-! ## Loads (40_loads.md) -/

/-- LD r,r' (R96): all 49 forms, r = r' among them. -/
def Obligations.LoadRegisterFromRegister : Prop :=
  ∀ r r' : Reg8, Completes (.ldReg r r') [op3 1 (sel r) (sel r')] 4 (fun s => s.setReg8 r (s.reg8 r'))

/-- LD r,(HL), LD (HL),r, LD A,(BC), LD A,(DE), LD (BC),A, LD (DE),A (R97, R98, R101 to R104): the address is
the pair as it stands before the instruction writes. -/
def Obligations.LoadsAndStoresThroughPairs : Prop :=
  (∀ r : Reg8, Completes (.ldFromHl r) [op3 1 (sel r) 6] 8 (load r State.hl)) ∧
    (∀ r : Reg8, Completes (.ldToHl r) [op3 1 6 (sel r)] 8 (fun s => s.memWrite s.hl (s.reg8 r))) ∧
    Completes .ldAAtBc [0x0A] 8 (load .a State.bc) ∧ Completes .ldAAtDe [0x1A] 8 (load .a State.de) ∧
    Completes .ldAtBcA [0x02] 8 (fun s => s.memWrite s.bc s.a) ∧
    Completes .ldAtDeA [0x12] 8 (fun s => s.memWrite s.de s.a)

/-- LD r,n8 and LD (HL),n8 (R99, R100), both 8 cycles. -/
def Obligations.LoadsOfImmediateBytes : Prop :=
  (∀ (r : Reg8) (n : Byte), Completes (.ldImm8 r n) [op3 0 (sel r) 6, n] 8 (fun s => s.setReg8 r n)) ∧
    (∀ n : Byte, Completes (.ldAtHlN8 n) [0x36, n] 8 (fun s => s.memWrite s.hl n))

/-- LD (HL+),A, LD (HL-),A, LD A,(HL+), LD A,(HL-) (R105 to R108): the access at HL, then HL steps by one
modulo 2^16, whether or not the access was closed. -/
def Obligations.LoadsAndStoresThatStepHl : Prop :=
  Completes .ldAtHlIncA [0x22] 8 (fun s => (s.memWrite s.hl s.a).setReg16 .hl (s.hl + 1)) ∧
    Completes .ldAtHlDecA [0x32] 8 (fun s => (s.memWrite s.hl s.a).setReg16 .hl (s.hl - 1)) ∧
    Completes .ldAAtHlInc [0x2A] 8 (fun s => (load .a State.hl s).setReg16 .hl (s.hl + 1)) ∧
    Completes .ldAAtHlDec [0x3A] 8 (fun s => (load .a State.hl s).setReg16 .hl (s.hl - 1))

/-- LD A,(a16), LD (a16),A, LDH (a8),A, LDH A,(a8), LD (C),A, LD A,(C) (R109 to R114): the high-page address
is 0xFF00 plus the offset. -/
def Obligations.LoadsAndStoresAtAbsoluteAndHighPageAddresses : Prop :=
  (∀ x : Word, Completes (.ldAAtA16 x) [0xFA, low x, high x] 16 (load .a (fun _ => x))) ∧
    (∀ x : Word, Completes (.ldAtA16A x) [0xEA, low x, high x] 16 (fun s => s.memWrite x s.a)) ∧
    (∀ o : Byte, Completes (.ldhAtA8A o) [0xE0, o] 12 (fun s => s.memWrite (0xFF00 + o.setWidth 16) s.a)) ∧
    (∀ o : Byte, Completes (.ldhAAtA8 o) [0xF0, o] 12 (load .a (fun _ => 0xFF00 + o.setWidth 16))) ∧
    Completes .ldAtCA [0xE2] 8 (fun s => s.memWrite (0xFF00 + s.c.setWidth 16) s.a) ∧
    Completes .ldAAtC [0xF2] 8 (load .a (fun s => 0xFF00 + s.c.setWidth 16))

/-- LD rr,n16, LD SP,HL and LD (a16),SP, low byte first (R115, R116, R117). -/
def Obligations.SixteenBitLoads : Prop :=
  (∀ (r : Reg16) (n : Word),
      Completes (.ldImm16 r n) [op3 0 (2 * pairNo r) 1, low n, high n] 12 (fun s => s.setReg16 r n)) ∧
    Completes .ldSpHl [0xF9] 8 (fun s => { s with sp := s.hl }) ∧
    (∀ x : Word, Completes (.ldAtA16Sp x) [0x08, low x, high x] 20
      (fun s => (s.memWrite x (low s.sp)).memWrite (x + 1) (high s.sp)))

/-- LD HL,SP+e8 and ADD SP,e8 (R118; 42_alu16.md R146): the sum takes the displacement signed, H and C come
from the unsigned addition of SP's low byte and the displacement byte, Z and N are cleared. -/
def Obligations.StackPointerPlusDisplacement : Prop :=
  (∀ e : Byte, Completes (.ldHlSpE8 e) [0xF8, e] 12 (fun s =>
      { s.setReg16 .hl (s.sp + e.signExtend 16) with
        f := flagByte false false (decide (s.sp.toNat % 16 + e.toNat % 16 > 0x0F))
          (decide (s.sp.toNat % 256 + e.toNat > 0xFF)) })) ∧
    (∀ e : Byte, Completes (.addSpE8 e) [0xE8, e] 16 (fun s =>
      { s with
        sp := s.sp + e.signExtend 16
        f := flagByte false false (decide (s.sp.toNat % 16 + e.toNat % 16 > 0x0F))
          (decide (s.sp.toNat % 256 + e.toNat > 0xFF)) }))

/-- PUSH rr (R119, R94): high byte at SP - 1, then low byte at SP - 2, each through the gate; SP moves in any
case. -/
def Obligations.PushStoresHighThenLow : Prop :=
  ∀ r : Reg16Stk, Completes (.push r) [op3 3 (2 * stkNo r) 5] 16 (fun s => push (s.regStk r) s)

/-- POP rr (R120, R95): low byte at SP, then high byte at SP + 1; POP AF drops the low nibble (by
RegisterFileAndPairViews). -/
def Obligations.PopReadsLowThenHigh : Prop :=
  ∀ r : Reg16Stk, Completes (.pop r) [op3 3 (2 * stkNo r) 1] 12 (fun s => (pop s).setRegStk r (popped s))

/-- PUSH then POP of the same pair restores the pair and SP where the two stack bytes are plain memory
(the round trip the spec marks derived in R120). The canonical memory and F's low nibble are invariants
(EveryStepKeepsTheInvariant). -/
def Obligations.PushThenPopRestores : Prop :=
  ∀ (r : Reg16Stk) (s : State), s.memoryCanonical → s.flagsCanonical → plain s (s.sp - 1) → plain s (s.sp - 2) →
    ∃ t u, exec (.push r) s = .next t ∧ exec (.pop r) t = .next u ∧ u.regStk r = s.regStk r ∧ u.sp = s.sp

/-! ## 8-bit arithmetic and logic (41_alu8.md) -/

/-- ADD A,s and ADC A,s (R121, R123, R124), the operand being any of the seven registers, (HL) or n8: ADC's
carry-in is in both sums. -/
def Obligations.AddAndAddWithCarry : Prop :=
  ∀ src : Src8,
    Completes (.alu .add src) (aluBytes .add src) (aluCount src) (fun s =>
      let v := (operand src s).1
      { (operand src s).2 with
        a := s.a + v
        f := flagByte (s.a + v == 0) false (decide (s.a.toNat % 16 + v.toNat % 16 > 0x0F))
          (decide (s.a.toNat + v.toNat > 0xFF)) }) ∧
    Completes (.alu .adc src) (aluBytes .adc src) (aluCount src) (fun s =>
      let v := (operand src s).1
      let c := BitVec.ofNat 8 (bit (cf s))
      { (operand src s).2 with
        a := s.a + v + c
        f := flagByte (s.a + v + c == 0) false (decide (s.a.toNat % 16 + v.toNat % 16 + bit (cf s) > 0x0F))
          (decide (s.a.toNat + v.toNat + bit (cf s) > 0xFF)) })

/-- SUB A,s, SBC A,s and CP A,s (R121, R125, R126, R130): N is set, H and C are the borrows, CP keeps A. -/
def Obligations.SubtractAndCompare : Prop :=
  ∀ src : Src8,
    Completes (.alu .sub src) (aluBytes .sub src) (aluCount src) (fun s =>
      let v := (operand src s).1
      { (operand src s).2 with
        a := s.a - v
        f := flagByte (s.a == v) true (decide (s.a.toNat % 16 < v.toNat % 16)) (decide (s.a < v)) }) ∧
    Completes (.alu .sbc src) (aluBytes .sbc src) (aluCount src) (fun s =>
      let v := (operand src s).1
      let r := s.a - v - BitVec.ofNat 8 (bit (cf s))
      { (operand src s).2 with
        a := r
        f := flagByte (r == 0) true (decide (s.a.toNat % 16 < v.toNat % 16 + bit (cf s)))
          (decide (s.a.toNat < v.toNat + bit (cf s))) }) ∧
    Completes (.alu .cp src) (aluBytes .cp src) (aluCount src) (fun s =>
      let v := (operand src s).1
      { (operand src s).2 with
        f := flagByte (s.a == v) true (decide (s.a.toNat % 16 < v.toNat % 16)) (decide (s.a < v)) })

/-- AND, XOR and OR (R121, R127, R128, R129): Z of the result, H set by AND alone, N and C cleared. -/
def Obligations.LogicOperations : Prop :=
  ∀ src : Src8,
    Completes (.alu .and src) (aluBytes .and src) (aluCount src) (fun s =>
      let r := s.a &&& (operand src s).1
      { (operand src s).2 with a := r, f := flagByte (r == 0) false true false }) ∧
    Completes (.alu .xor src) (aluBytes .xor src) (aluCount src) (fun s =>
      let r := s.a ^^^ (operand src s).1
      { (operand src s).2 with a := r, f := flagByte (r == 0) false false false }) ∧
    Completes (.alu .or src) (aluBytes .or src) (aluCount src) (fun s =>
      let r := s.a ||| (operand src s).1
      { (operand src s).2 with a := r, f := flagByte (r == 0) false false false })

/-- INC r and DEC r (R131, R133): the carry is kept, and r = A, F apart, is like any other. -/
def Obligations.IncrementAndDecrementRegister : Prop :=
  ∀ r : Reg8,
    Completes (.incReg r) [op3 0 (sel r) 4] 4 (fun s =>
      { s.setReg8 r (s.reg8 r + 1) with
        f := flagByte (s.reg8 r == 0xFF) false (s.reg8 r &&& 0x0F == 0x0F) (cf s) }) ∧
    Completes (.decReg r) [op3 0 (sel r) 5] 4 (fun s =>
      { s.setReg8 r (s.reg8 r - 1) with
        f := flagByte (s.reg8 r == 0x01) true (s.reg8 r &&& 0x0F == 0x00) (cf s) })

/-- INC (HL) and DEC (HL) (R132, R134): one read, one write of the same address, the flags of the byte read,
the carry kept. -/
def Obligations.IncrementAndDecrementAtHl : Prop :=
  Completes .incAtHl [0x34] 12 (fun s =>
      let v := (s.memRead s.hl).1
      { (s.memRead s.hl).2.memWrite s.hl (v + 1) with
        f := flagByte (v == 0xFF) false (v &&& 0x0F == 0x0F) (cf s) }) ∧
    Completes .decAtHl [0x35] 12 (fun s =>
      let v := (s.memRead s.hl).1
      { (s.memRead s.hl).2.memWrite s.hl (v - 1) with
        f := flagByte (v == 0x01) true (v &&& 0x0F == 0x00) (cf s) })

/-- RLCA, RLA, RRCA, RRA (R135 to R138): Z is cleared, not computed; C is the bit shifted out. -/
def Obligations.RotatesOfTheAccumulator : Prop :=
  Completes .rlca [0x07] 4 (fun s =>
      { s with a := s.a.rotateLeft 1, f := flagByte false false false (s.a.getLsbD 7) }) ∧
    Completes .rla [0x17] 4 (fun s =>
      { s with
        a := s.a.extractLsb' 0 7 ++ BitVec.ofBool (cf s)
        f := flagByte false false false (s.a.getLsbD 7) }) ∧
    Completes .rrca [0x0F] 4 (fun s =>
      { s with a := s.a.rotateRight 1, f := flagByte false false false (s.a.getLsbD 0) }) ∧
    Completes .rra [0x1F] 4 (fun s =>
      { s with
        a := BitVec.ofBool (cf s) ++ s.a.extractLsb' 1 7
        f := flagByte false false false (s.a.getLsbD 0) })

/-- DAA (R139): the correction, N kept, Z of the result, C set exactly by the upper correction, H by the
launch's DAA_H, whose default is constantly false. -/
def Obligations.DecimalAdjust : Prop :=
  Completes .daa [0x27] 4 (fun s =>
      let upper := cf s || (!nf s && decide (s.a.toNat > 0x99))
      let lower := hf s || (!nf s && decide (s.a.toNat % 16 > 0x09))
      let corr : Byte := BitVec.ofNat 8 (bit upper * 0x60 + bit lower * 0x06)
      let r := if nf s then s.a - corr else s.a + corr
      { s with
        a := r
        f := flagByte (r == 0) (nf s) (decide (⟨s.a, r, nf s, hf s, cf s⟩ ∈ s.params.daaH)) upper }) ∧
    defaultParams.daaH = []

/-- CPL, SCF and CCF (R140, R141, R142): their fixed flag recipes; Z is kept. -/
def Obligations.ComplementAndCarryOperations : Prop :=
  Completes .cpl [0x2F] 4 (fun s => { s with a := ~~~s.a, f := flagByte (zf s) true true (cf s) }) ∧
    Completes .scf [0x37] 4 (fun s => { s with f := flagByte (zf s) false false true }) ∧
    Completes .ccf [0x3F] 4 (fun s => { s with f := flagByte (zf s) false false (!cf s) })

/-! ## 16-bit arithmetic (42_alu16.md) -/

/-- ADD HL,rr (R143): Z from the 16-bit result, H out of bit 11, C out of bit 15. -/
def Obligations.AddPairToHl : Prop :=
  ∀ r : Reg16, Completes (.addHl r) [op3 0 (2 * pairNo r + 1) 1] 8 (fun s =>
    { s.setReg16 .hl (s.hl + s.reg16 r) with
      f := flagByte (s.hl + s.reg16 r == 0) false (decide (s.hl.toNat % 4096 + (s.reg16 r).toNat % 4096 > 0x0FFF))
        (decide (s.hl.toNat + (s.reg16 r).toNat > 0xFFFF)) })

/-- INC rr and DEC rr (R144, R145): modulo 2^16, no flags. -/
def Obligations.IncrementAndDecrementPair : Prop :=
  ∀ r : Reg16,
    Completes (.incPair r) [op3 0 (2 * pairNo r) 3] 8 (fun s => s.setReg16 r (s.reg16 r + 1)) ∧
    Completes (.decPair r) [op3 0 (2 * pairNo r + 1) 3] 8 (fun s => s.setReg16 r (s.reg16 r - 1))

/-! ## Control transfer (43_control.md) -/

/-- The condition rule (R147): without a check the transfer is unconditional, else the named flag is tested,
inverted if negate is set; the encoded conditions request what R76 lists. -/
def Obligations.ConditionEvaluation : Prop :=
  (∀ (carry zero negate : Bool) (s : State), evalCond carry zero negate s.flags =
      if carry = false ∧ zero = false then true
      else if negate then !(if carry then cf s else zf s) else (if carry then cf s else zf s)) ∧
    (∀ s : State, condHolds .nz s.flags = evalCond false true true s.flags ∧
      condHolds .z s.flags = evalCond false true false s.flags ∧
      condHolds .nc s.flags = evalCond true false true s.flags ∧
      condHolds .c s.flags = evalCond true false false s.flags)

/-- JP a16, JP cc,a16, JP HL, JR e8 and JR cc,e8 (R148 to R152): a relative target counts from the next
instruction, modulo 2^16; a jump not taken passes on. -/
def Obligations.AbsoluteAndRelativeJumps : Prop :=
  (∀ x : Word, Jumps (.jpA16 x) [0xC3, low x, high x] 12 id (fun _ => some x)) ∧
    (∀ (cc : Cond) (x : Word), Jumps (.jpIf cc x) [op3 3 (condNo cc) 2, low x, high x] 12 id
      (fun s => if holds cc s then some x else none)) ∧
    Jumps .jpHl [0xE9] 4 id (fun s => some s.hl) ∧
    (∀ e : Byte, Jumps (.jrE8 e) [0x18, e] 12 id (fun s => some (s.pc + 2 + e.signExtend 16))) ∧
    (∀ (cc : Cond) (e : Byte), Jumps (.jrIf cc e) [op3 0 (4 + condNo cc) 0, e] 8 id
      (fun s => if holds cc s then some (s.pc + 2 + e.signExtend 16) else none))

/-- CALL a16, CALL cc,a16 and RST n (R153, R154, R158): the address of the next instruction is pushed; a call
not taken touches neither the stack nor SP. -/
def Obligations.CallsAndRestarts : Prop :=
  (∀ x : Word, Jumps (.callA16 x) [0xCD, low x, high x] 12 (fun s => push (s.pc + 3) s) (fun _ => some x)) ∧
    (∀ (cc : Cond) (x : Word), Jumps (.callIf cc x) [op3 3 (condNo cc) 4, low x, high x] 12
      (fun s => push (s.pc + 3) s) (fun s => if holds cc s then some x else none)) ∧
    (∀ y : Fin 8, Jumps (.rst y) [op3 3 y 7] 16 (fun s => push (s.pc + 1) s)
      (fun _ => some (BitVec.ofNat 16 (8 * y))))

/-- RET and RET cc (R155, R156): a return not taken reads no memory and leaves SP; neither touches IME. -/
def Obligations.Returns : Prop :=
  Jumps .ret [0xC9] 16 pop (fun s => some (popped s)) ∧
    (∀ cc : Cond, Jumps (.retIf cc) [op3 3 (condNo cc) 0] 8 pop
      (fun s => if holds cc s then some (popped s) else none))

/-- RETI (R157): a return that swaps IME and prev_IME, whether or not an interrupt is being serviced. -/
def Obligations.ReturnFromInterruptSwapsIme : Prop :=
  Jumps .reti [0xD9] 16 (fun s => { pop s with ime := s.prevIme, prevIme := s.ime }) (fun s => some (popped s))

/-! ## System instructions (44_system.md) -/

/-- NOP, DI and EI (R159, R160, R161): DI and EI act at once and leave prev_IME. -/
def Obligations.NopAndInterruptEnable : Prop :=
  Completes .nop [0x00] 4 id ∧ Completes .di [0xF3] 4 (fun s => { s with ime := false }) ∧
    Completes .ei [0xFB] 4 (fun s => { s with ime := true })

/-- HALT and STOP (R162, R163): under NOP each only passes, halted and stopped unset; under FAULT, the
default, each raises UnimplementedOpcode and writes nothing else. STOP has a second byte, read and
ignored under NOP and not read under FAULT. The record in a next state is the model's form (log entry 7). -/
def Obligations.HaltAndStopFollowThePolicy : Prop :=
  defaultParams.haltStop = .fault ∧ encode .halt = [0x76] ∧ (∀ n : Byte, encode (.stop n) = [0x10, n]) ∧
    defaultParams.cycles.getD 0x76 0 = 4 ∧ defaultParams.cycles.getD 0x10 0 = 4 ∧
    (∀ s : State, s.params.haltStop = .nop →
      exec .halt s = .next (passed 0x76 1 s) ∧ ∀ n : Byte, exec (.stop n) s = .next (passed 0x10 2 s)) ∧
    (∀ s : State, s.params.haltStop = .fault →
      exec .halt s = .next { s with fault := some ⟨.unimplementedOpcode, 0x76, s.pc⟩ } ∧
        ∀ n : Byte, exec (.stop n) s = .next { s with fault := some ⟨.unimplementedOpcode, 0x10, s.pc⟩ }) ∧
    (∀ s : State, (s.memRead s.pc).1 = 0x10 →
      (fetch s).2 = if s.params.haltStop = .fault then (s.memRead s.pc).2
        else ((s.memRead s.pc).2.memRead (s.pc + 1)).2)

/-- PREFIX CB and the eleven illegal bytes (R164, R165): UnimplementedOpcode with the byte and its address,
and nothing else written. The record in a next state is the model's form (log entry 7). -/
def Obligations.ExcludedAndIllegalOpcodesFault : Prop :=
  ∀ p ∈ ([(.prefixCb, 0xCB), (.illegalD3, 0xD3), (.illegalDB, 0xDB), (.illegalDD, 0xDD), (.illegalE3, 0xE3),
      (.illegalE4, 0xE4), (.illegalEB, 0xEB), (.illegalEC, 0xEC), (.illegalED, 0xED), (.illegalF4, 0xF4),
      (.illegalFC, 0xFC), (.illegalFD, 0xFD)] : List (Instr × Byte)),
    encode p.1 = [p.2] ∧ opSize p.2 = none ∧
      ∀ s : State, exec p.1 s = .next { s with fault := some ⟨.unimplementedOpcode, p.2, s.pc⟩ }

/-! ## Memory (20_memory.md) -/

/-- MemRead (R52, R54, R57): closed addresses read 0xFF with no other effect, a collaborator's register is a
draw recorded as an event, any other byte is the stored one; two bytes are two reads, low byte first. -/
def Obligations.ReadsPassTheGateAndTheDevicePort : Prop :=
  (∀ (s : State) (x : Word), s.blocked x =
      (((decide (0x8000 ≤ x) && decide (x ≤ 0x9FFF)) || (decide (0xFE00 ≤ x) && decide (x ≤ 0xFE9F))) &&
        (s.mode == .oamSearch || s.mode == .pixelTransfer))) ∧
    (∀ (s : State) (x : Word), s.memRead x =
      if s.blocked x then (0xFF, s)
      else if x ∈ s.params.deviceAddrs then
        (Config.deviceRead x s.history,
          { s with history := s.history ++ [.read x (Config.deviceRead x s.history)] })
      else (s.peek x, s)) ∧
    (∀ (s : State) (x : Word), s.memRead16 x =
      (((s.memRead x).2.memRead (x + 1)).1 ++ (s.memRead x).1, ((s.memRead x).2.memRead (x + 1)).2))

/-- MemWrite (R52, R55, R58): a write to a closed address is dropped, one to a collaborator's register is an
event, any other stores its byte in the flat array, the ROM area and the register bytes included; two
bytes are two writes, low byte first. -/
def Obligations.WritesPassTheGateAndTheDevicePort : Prop :=
  (∀ (s : State) (x : Word) (v : Byte), s.memWrite x v =
      if s.blocked x then s
      else if x ∈ s.params.deviceAddrs then { s with history := s.history ++ [.write x v] }
      else { s with mem := s.mem.write x.toNat v }) ∧
    (∀ (s : State) (x v : Word), s.memWrite16 x v = (s.memWrite x (low v)).memWrite (x + 1) (high v))

/-- Every read of a byte returns the last write to it (R67): a plain write is read back, and every other byte
keeps its value, in every canonical memory, through the stored byte and through MemRead alike. -/
def Obligations.ReadReturnsTheLastWrite : Prop :=
  ∀ (s : State) (x : Word) (v : Byte), s.memoryCanonical → plain s x →
    (s.memWrite x v).memRead x = (v, s.memWrite x v) ∧
      ∀ y : Word, (s.memWrite x v).peek y = if y = x then v else s.peek y

/-! ## Frames: what an instruction leaves alone -/

/-- Every instruction leaves every 8-bit register but its destinations, SP unless it is a stack or SP
instruction, and F unless 10_state.md R21's table lists it as a writer of flags. -/
def Obligations.RegistersOutsideTheDestinationsAreKept : Prop :=
  ∀ (i : Instr) (s t : State), exec i s = .next t →
    (∀ r : Reg8, r ∉ dests i → t.reg8 r = s.reg8 r) ∧ (writesSp i = false → t.sp = s.sp) ∧
      (writesFlags i = false → t.f = s.f)

/-- Every instruction leaves IME but EI, DI and RETI; prev_IME but RETI; halted, stopped, the PPU, the
framebuffer, the launch parameters and the draw count in any case; the device history only grows;
an instruction that is no control transfer moves PC past itself, or faults and changes only the record. -/
def Obligations.ControlStateIsKept : Prop :=
  ∀ (i : Instr) (s t : State), exec i s = .next t →
    (i ∉ [.ei, .di, .reti] → t.ime = s.ime) ∧ (i ≠ .reti → t.prevIme = s.prevIme) ∧
      t.halted = s.halted ∧ t.stopped = s.stopped ∧ t.mode = s.mode ∧ t.ly = s.ly ∧ t.acc = s.acc ∧
      t.fb = s.fb ∧ t.bgIndex = s.bgIndex ∧ t.params = s.params ∧ t.draws = s.draws ∧
      (∃ events, t.history = s.history ++ events) ∧
      (transfers i = false → t.pc = s.pc + BitVec.ofNat 16 i.size ∨ t = { s with fault := t.fault })

/-- Every instruction leaves every byte of memory but those it stores to; the addresses are computed from
the state it starts in (20_memory.md R62). -/
def Obligations.MemoryOutsideTheStoredBytesIsKept : Prop :=
  ∀ (i : Instr) (s t : State), exec i s = .next t → ∀ x : Word, x ∉ stores i s → t.peek x = s.peek x

/-- While the gate is closed no instruction writes a byte of video RAM or object attribute memory, and none
learns one: from two states that differ only there, it answers two states that differ only there
(20_memory.md R52, R53). Both memories are in canonical form, an invariant (EveryStepKeepsTheInvariant). -/
def Obligations.TheClosedGateIsolates : Prop :=
  ∀ (i : Instr) (s t : State), s.memoryCanonical → t.memoryCanonical → s.mode.closesGate = true →
    SameOutsideGate s t →
    ∃ u v, exec i s = .next u ∧ exec i t = .next v ∧ SameOutsideGate u v ∧
      ∀ x : Word, gated x = true → u.peek x = s.peek x ∧ v.peek x = t.peek x

/-! ## Steps -/

/-- A step runs the decoded instruction (30_encoding.md R86, R87, R89; 60_exceptions.md R193): where the
bytes at PC are plain memory and decode to i, it is exec of i and the rest of the iteration; and in every
state, where the bytes that MemRead gives from PC on, closed and device bytes among them, are i's encoding,
it is exec of i in the state after those reads and the rest of the iteration. The second clause leaves out
STOP under the FAULT policy, whose second byte is not read (UnimplementedOpcodeFaultIsPrecise). That a step
is one iteration is log entry 8. -/
def Obligations.StepRunsTheDecodedInstruction : Prop :=
  (∀ (s t : State) (i : Instr) (rest : List Byte), s.fault = none →
    decode [s.peek s.pc, s.peek (s.pc + 1), s.peek (s.pc + 2)] = .ok (i, rest) →
    (∀ k < (encode i).length, plain s (s.pc + BitVec.ofNat 16 k)) → exec i s = .next t →
    step s = .next (iterationEnd i t)) ∧
  (∀ (s t : State) (i : Instr), s.fault = none → ¬ (i.opcode = 0x10 ∧ s.params.haltStop = .fault) →
    (fetchBytes (encode i).length s.pc s).1 = encode i →
    exec i (fetchBytes (encode i).length s.pc s).2 = .next t →
    step s = .next (iterationEnd i t))

/-- A fetch from a closed address reads 0xFF and so executes RST 38H (20_memory.md R53). -/
def Obligations.FetchFromAClosedAddressRestarts : Prop :=
  ∀ s : State, s.fault = none → s.blocked s.pc = true →
    ∃ t, exec .rst38 s = .next t ∧ t.pc = 0x0038 ∧ step s = .next (t.finishIteration .rst38)

/-- A step whose opcode has no entry writes nothing but the fault record, and reads no immediate: only its
opcode fetch, an event at a device address, is left (30_encoding.md R88, R93). That the step answers a next
state, and its successor the outcome fault, is log entry 7. -/
def Obligations.UnimplementedOpcodeFaultIsPrecise : Prop :=
  ∀ s : State, s.fault = none →
    ((s.memRead s.pc).1 ∈ ([0xD3, 0xDB, 0xDD, 0xE3, 0xE4, 0xEB, 0xEC, 0xED, 0xF4, 0xFC, 0xFD, 0xCB] : List Byte) ∨
      ((s.memRead s.pc).1 ∈ ([0x10, 0x76] : List Byte) ∧ s.params.haltStop = .fault)) →
    step s = .next { (s.memRead s.pc).2 with
      fault := some ⟨.unimplementedOpcode, (s.memRead s.pc).1, s.pc⟩ }

/-- A fault is final and nothing else stops the machine: a state with a record takes no step, and every
other state takes one (60_exceptions.md R167; 10_state.md R32). The outcome fault of a state with a record
is the model's form of "no step" (log entry 7). -/
def Obligations.OnlyARecordedFaultStopsTheMachine : Prop :=
  ∀ s : State, match s.fault with
    | some r => step s = .fault (.machineFaulted r)
    | none => ∃ t, step s = .next t

/-- Where a fault comes from (60_exceptions.md R166, R168): the lookup, with the opcode byte and its address,
or the interrupt check, with IF & IE and PC, when IME is set and only bits 7..5 are pending. No step
raises InvalidOperandCombination. -/
def Obligations.FaultsComeFromLookupOrInterruptCheck : Prop :=
  ∀ (s t : State) (r : FaultRecord), s.fault = none → step s = .next t → t.fault = some r →
    (r = ⟨.unimplementedOpcode, (s.memRead s.pc).1, s.pc⟩ ∧ t = { (s.memRead s.pc).2 with fault := some r }) ∨
      (r = ⟨.undefinedInterruptSource, t.peek 0xFF0F &&& t.peek 0xFFFF, t.pc⟩ ∧ t.ime = true ∧ r.info ≠ 0 ∧
        r.info &&& 0x1F = 0)

/-- A step that raises no fault adds its opcode's count, and DISPATCH_CYCLES exactly where its interrupt check
finds IME set and a pending enabled bit; it never touches halted, stopped or the launch parameters
(30_encoding.md R92; 60_exceptions.md R171, R172; 10_state.md R29, R30; 70_reset_and_hazards.md R199). -/
def Obligations.StepCountsCyclesAndKeepsTheFixedState : Prop :=
  ∀ s t : State, step s = .next t →
    t.halted = s.halted ∧ t.stopped = s.stopped ∧ t.params = s.params ∧
      ∃ u, exec (fetch s).1 (fetch s).2 = .next u ∧
        let count := s.params.cycles.getD (s.memRead s.pc).1.toNat 0
        let checked := (u.ppuStep count).externalRequests
        (t.fault = none →
          t.cycles = s.cycles + count +
            (if checked.ime = true ∧ checked.peek 0xFF0F &&& checked.peek 0xFFFF ≠ 0 then s.params.dispatchCycles
             else 0))

/-! ## Interrupts (60_exceptions.md) -/

/-- The interrupt check (R170, R171): nothing without IME or a pending bit; the fault record alone when only
bits 7..5 are pending; else the lowest pending source n of 0..4: IME into prev_IME and cleared, PC
pushed, bit n of IF cleared as IF stands after the push, PC at 0x0040 + 8n, DISPATCH_CYCLES added. -/
def Obligations.InterruptCheckDispatchesTheLowestSource : Prop :=
  ∀ s : State,
    (s.ime = false ∨ s.peek 0xFF0F &&& s.peek 0xFFFF = 0 → s.handleInterrupts = s) ∧
      (s.ime = true → s.peek 0xFF0F &&& s.peek 0xFFFF ≠ 0 → s.peek 0xFF0F &&& s.peek 0xFFFF &&& 0x1F = 0 →
        s.handleInterrupts =
          { s with fault := some ⟨.undefinedInterruptSource, s.peek 0xFF0F &&& s.peek 0xFFFF, s.pc⟩ }) ∧
      (∀ n < 5, s.ime = true → (s.peek 0xFF0F &&& s.peek 0xFFFF).getLsbD n = true →
        (∀ m < n, (s.peek 0xFF0F &&& s.peek 0xFFFF).getLsbD m = false) →
        let p := push s.pc { s with prevIme := s.ime, ime := false }
        s.handleInterrupts =
          { p with
            mem := p.mem.write 0xFF0F (p.peek 0xFF0F &&& ~~~(1#8 <<< n))
            pc := BitVec.ofNat 16 (0x0040 + 8 * n)
            cycles := p.cycles + s.params.dispatchCycles })

/-- The way back (R175): where the two stack bytes are plain and not IF, RETI right after a dispatch returns
to the interrupted PC and SP, sets IME and clears prev_IME, and the serviced bit of IF is clear; RET
returns likewise but leaves IME clear. -/
def Obligations.ReturnAfterDispatch : Prop :=
  ∀ (s : State) (n : Nat), n < 5 → s.memoryCanonical → s.ime = true → plain s (s.sp - 1) → plain s (s.sp - 2) →
    s.sp - 1 ≠ 0xFF0F → s.sp - 2 ≠ 0xFF0F →
    ∃ u v, exec .reti (s.takeInterrupt n) = .next u ∧ exec .ret (s.takeInterrupt n) = .next v ∧
      u.pc = s.pc ∧ u.sp = s.sp ∧ u.ime = true ∧ u.prevIme = false ∧ (u.peek 0xFF0F).getLsbD n = false ∧
      v.pc = s.pc ∧ v.sp = s.sp ∧ v.ime = false ∧ v.prevIme = true

/-- The nesting table (R176): prev_IME is one slot, so after a nested interrupt that returns with RETI the
outer RETI leaves interrupts disabled. Each row gives IME and prev_IME after its event. -/
def Obligations.NestedInterruptsLeaveImeClear : Prop :=
  ∀ (s : State) (m n : Nat), s.ime = true →
    let a := s.takeInterrupt m
    ∃ b d e, exec .ei a = .next b ∧ exec .reti (b.takeInterrupt n) = .next d ∧ exec .reti d = .next e ∧
      (a.ime, a.prevIme) = (false, true) ∧ (b.ime, b.prevIme) = (true, true) ∧
      ((b.takeInterrupt n).ime, (b.takeInterrupt n).prevIme) = (false, true) ∧
      (d.ime, d.prevIme) = (true, false) ∧ (e.ime, e.prevIme) = (false, true)

/-- The collaborators' requests (R192): the draw sets IF bits 2, 3 and 4 for timer, serial and joypad, clears
none, and changes no other byte and no register. The draw is a free value: the statement holds whatever
it is. -/
def Obligations.CollaboratorRequestsSetIfBits : Prop :=
  ∀ s : State, s.memoryCanonical →
    let draw := Config.extIrq s.draws s.cycles s.history
    s.externalRequests = { s with mem := s.externalRequests.mem, draws := s.draws + 1 } ∧
      (∀ x : Word, x ≠ 0xFF0F → s.externalRequests.peek x = s.peek x) ∧
      ∀ k < 8, (s.externalRequests.peek 0xFF0F).getLsbD k =
        ((s.peek 0xFF0F).getLsbD k || (decide (k = 2) && draw.timer) || (decide (k = 3) && draw.serial) ||
          (decide (k = 4) && draw.joypad))

/-! ## The PPU (60_exceptions.md) -/

/-- ppu_step(c) (R178, R179): at most one transition, at or past the mode's threshold, the remainder
discarded; the render runs at HBLANK entry with the mode already HBLANK; LY 144 enters VBLANK with its
request; both VBLANK models. -/
def Obligations.PpuStepTakesAtMostOneTransition : Prop :=
  ∀ (s : State) (c : Nat),
    s.ppuStep c =
      (let t := { s with acc := s.acc + c }
       match s.mode with
       | .oamSearch => if 80 ≤ t.acc then { t with mode := .pixelTransfer, acc := 0 } else t
       | .pixelTransfer => if 172 ≤ t.acc then { t with mode := .hblank, acc := 0 }.renderScanline else t
       | .hblank =>
         if 204 ≤ t.acc then
           if s.ly + 1 < 144 then { t with acc := 0, ly := s.ly + 1, mode := .oamSearch }
           else { t with
             acc := 0
             ly := s.ly + 1
             mode := .vblank
             mem := s.mem.write 0xFF0F (s.peek 0xFF0F ||| 0x01) }
         else t
       | .vblank =>
         match s.params.vblank with
         | .coarse => if 4560 ≤ t.acc then { t with acc := 0, ly := 0, mode := .oamSearch } else t
         | .perLine =>
           if 456 ≤ t.acc then
             if s.ly + 1 = 154 then { t with acc := 0, ly := 0, mode := .oamSearch }
             else { t with acc := 0, ly := s.ly + 1 }
           else t).writeStatLy

/-- After every PPU step STAT holds the mode and the LY-compare, and bits 7..3 by STAT_WRITE_POLICY; the LY
byte holds LY; IF bit 0 is set exactly when VBLANK is entered and no other bit of IF changes; no other
byte changes, and no CPU register, IME, cycle count, history or parameter does (R180, R181; 20_memory.md
R59). -/
def Obligations.PpuStepWritesStatLyAndTheRequest : Prop :=
  ∀ (s : State) (c : Nat), s.memoryCanonical →
    let t := s.ppuStep c
    t.peek 0xFF41 =
        (match s.params.statWrite with
         | .preserveUpper => s.peek 0xFF41 &&& 0xF8
         | .overwrite => 0) |||
          (if t.ly = (s.peek 0xFF45).toNat then 4 else 0) |||
          (match t.mode with
           | .hblank => 0
           | .vblank => 1
           | .oamSearch => 2
           | .pixelTransfer => 3) ∧
      t.peek 0xFF44 = BitVec.ofNat 8 t.ly ∧
      t.peek 0xFF0F = s.peek 0xFF0F ||| (if s.mode = .hblank ∧ t.mode = .vblank then 1 else 0) ∧
      (∀ x : Word, ¬ rewritten x → t.peek x = s.peek x) ∧
      t = { s with mode := t.mode, ly := t.ly, acc := t.acc, fb := t.fb, bgIndex := t.bgIndex, mem := t.mem }

/-- render_scanline (R184, R185; 10_state.md R37): it changes the framebuffer row of LY and bg_index and
nothing else; at LY 144 or above nothing changes; without the background pass bg_index is cleared; with
both passes disabled no pixel changes. -/
def Obligations.RenderChangesOneRow : Prop :=
  ∀ s : State, s.screenShaped →
    s.renderScanline = { s with fb := s.renderScanline.fb, bgIndex := s.renderScanline.bgIndex } ∧
      (∀ x y, y ≠ s.ly → pixel s.renderScanline x y = pixel s x y) ∧
      (144 ≤ s.ly → s.renderScanline = s) ∧
      (s.ly < 144 → (s.peek 0xFF40).getLsbD 0 = false → s.renderScanline.bgIndex = List.replicate 160 0) ∧
      ((s.peek 0xFF40).getLsbD 0 = false → (s.peek 0xFF40).getLsbD 1 = false → s.renderScanline.fb = s.fb)

/-- The background pass (R186, R187, R188): with it alone enabled, pixel x of the line is the palette's quad of
the colour index of its tile, and bg_index records the index; index 0x80 of the signed mode is the tile
at 0x8800, index 0 the one at 0x9000. -/
def Obligations.BackgroundPassDrawsTheMap : Prop :=
  ∀ (s : State) (x : Nat), s.screenShaped → s.ly < 144 → x < 160 → (s.peek 0xFF40).getLsbD 0 = true →
    s.renderScanline.bgIndex.getD x 0 = background s (s.peek 0xFF40) x s.ly ∧
      ((s.peek 0xFF40).getLsbD 1 = false →
        pixel s.renderScanline x s.ly = shade s.params.palette (background s (s.peek 0xFF40) x s.ly))

/-- Sprite selection (R190): at most ten entries, all covering the line, in ascending X with ties by index;
every covering entry left out comes after every one kept, and none is left out while fewer than ten are
kept. -/
def Obligations.SpriteSelectionKeepsTheTenFirst : Prop :=
  ∀ (s : State) (y h : Nat),
    let kept := s.spritesOn y h
    kept.length ≤ 10 ∧ kept.Pairwise (before s) ∧ (∀ i ∈ kept, covers s y h i) ∧
      ∀ i, covers s y h i → i ∉ kept → kept.length = 10 ∧ ∀ k ∈ kept, before s k i

/-- The sprite pass and the whole render of a visible line (R185, R187, R188, R190, R191; 90_conflicts.md C9):
at each column the pixel that remains is that of the first kept entry that puts one there, and where none
does the pixel is as it was. A render runs the sprite pass when LCDC bit 1 is set, over the background of
the same call, whose index is 0 where the background pass did not run. -/
def Obligations.HighestPrioritySpriteRemains : Prop :=
  (∀ (s : State) (lcdc : Byte) (x y : Nat), s.screenShaped → x < 160 → y < 144 →
    pixel (s.spritePass y lcdc) x y =
      match spritesAt s lcdc (s.bgIndex.getD x 0) y x with
      | some ci => shade s.params.palette ci
      | none => pixel s x y) ∧
  (∀ (s : State) (x : Nat), s.screenShaped → s.ly < 144 → x < 160 →
    let lcdc := s.peek 0xFF40
    let below := if lcdc.getLsbD 0 then background s lcdc x s.ly else 0
    s.renderScanline.bgIndex.getD x 0 = below ∧
      pixel s.renderScanline x s.ly =
        match if lcdc.getLsbD 1 then spritesAt s lcdc below s.ly x else none with
        | some ci => shade s.params.palette ci
        | none => if lcdc.getLsbD 0 then shade s.params.palette below else pixel s x s.ly)

/-! ## Reset, invariants and the end of a run (10_state.md, 70_reset_and_hazards.md) -/

/-- What power-on leaves, for any launch image and parameters (10_state.md R46 to R50). -/
def Obligations.PowerOnState : Prop :=
  ∀ (p : Params) (image : Memory),
    let s := State.launch p image
    s.a = 0 ∧ s.f = 0 ∧ s.b = 0 ∧ s.c = 0 ∧ s.d = 0 ∧ s.e = 0 ∧ s.h = 0 ∧ s.l = 0 ∧ s.sp = 0 ∧ s.pc = 0 ∧
      s.ime = false ∧ s.prevIme = false ∧ s.halted = false ∧ s.stopped = false ∧ s.cycles = 0 ∧ s.fault = none ∧
      s.mode = .oamSearch ∧ s.ly = 0 ∧ s.acc = 0 ∧ (∀ x : Word, s.peek x = image.read x.toNat) ∧
      (∀ n < 160 * 144 * 4, s.fbByte n = 0) ∧ s.bgIndex = List.replicate 160 0 ∧ s.params = p

/-- Every launch of a canonical image meets the invariant, and so does the reset state. -/
def Obligations.PowerOnMeetsTheInvariant : Prop :=
  (∀ (p : Params) (image : Memory), image.wf = true → Invariant (State.launch p image)) ∧ Invariant State.reset

/-- Every step keeps the invariant: the memory's canonical form, F's zero low nibble, LY below 154 and at
least 144 exactly in VBLANK, the screen's shape, pc_written false (10_state.md R19, R31, R34, R36, R37;
90_conflicts.md C7, C12). -/
def Obligations.EveryStepKeepsTheInvariant : Prop :=
  ∀ s t : State, Invariant s → step s = .next t → Invariant t

/-- The end of a run (70_reset_and_hazards.md R201): from an ended state whose self-loop stands in plain
memory, off the three bytes that are rewritten, every step is a next state that is ended again, with the
registers, SP, PC, IME, prev_IME and every byte but those three unchanged. -/
def Obligations.AnEndedRunStaysEnded : Prop :=
  ∀ s : State, s.ended → s.pc ∉ s.params.deviceAddrs → s.pc + 1 ∉ s.params.deviceAddrs →
    ¬ rewritten s.pc → ¬ rewritten (s.pc + 1) →
    ∃ t, step s = .next t ∧ t.ended ∧ (∀ r : Reg8, t.reg8 r = s.reg8 r) ∧ t.f = s.f ∧ t.sp = s.sp ∧ t.pc = s.pc ∧
      t.prevIme = s.prevIme ∧ ∀ x : Word, ¬ rewritten x → t.peek x = s.peek x
end

