-- ==== Sys2Proof/Laws/Memory.lean ====
section
/-! SUPPORT. The laws of the flat array: a read after a write, and the canonical form kept. -/

namespace Sys2Proof.Machine

theorem Memory.wfFrom_cons (lo k : Nat) (v : Byte) (m : Memory) :
    Memory.wfFrom lo ((k, v) :: m) = true ↔
      lo ≤ k ∧ k < Memory.size ∧ v ≠ Memory.unlisted ∧ Memory.wfFrom (k + 1) m = true := by
  simp [Memory.wfFrom, and_assoc]

theorem Memory.wfFrom_mono {lo lo' : Nat} (h : lo' ≤ lo) {m : Memory} (hm : Memory.wfFrom lo m = true) :
    Memory.wfFrom lo' m = true := by
  cases m with
  | nil => rfl
  | cons p m =>
    rw [Memory.wfFrom_cons] at hm ⊢
    exact ⟨h.trans hm.1, hm.2⟩

/-- Below its first address a canonical memory reads as unlisted. -/
theorem Memory.read_below {lo x : Nat} (hx : x < lo) {m : Memory} (hm : Memory.wfFrom lo m = true) :
    m.read x = Memory.unlisted := by
  induction m generalizing lo with
  | nil => rfl
  | cons p m ih =>
    rw [Memory.wfFrom_cons] at hm
    have hne : x ≠ p.1 := by omega
    simp only [Memory.read, hne, if_false]
    exact ih (by omega) hm.2.2.2

/-- A write leaves every other address alone. -/
theorem Memory.read_write_other {x y : Nat} (h : y ≠ x) (m : Memory) (v : Byte) :
    (m.write x v).read y = m.read y := by
  induction m with
  | nil => by_cases hv : v = Memory.unlisted <;> simp [Memory.write, Memory.read, hv, h]
  | cons p m ih =>
    obtain ⟨k, w⟩ := p
    unfold Memory.write
    split
    · split <;> simp [Memory.read, h]
    · split
      · next hk => subst hk; split <;> simp [Memory.read, h]
      · simp [Memory.read, ih]

theorem Memory.read_write_same_from {lo : Nat} {m : Memory} (hm : Memory.wfFrom lo m = true) (x : Nat) (v : Byte) :
    (m.write x v).read x = v := by
  induction m generalizing lo with
  | nil => by_cases hv : v = Memory.unlisted <;> simp [Memory.write, Memory.read, hv]
  | cons p m ih =>
    obtain ⟨k, w⟩ := p
    rw [Memory.wfFrom_cons] at hm
    unfold Memory.write
    split
    · next hlt =>
      split
      · next hv =>
        subst hv
        have hne : x ≠ k := by omega
        simp only [Memory.read, hne, if_false]
        exact Memory.read_below (by omega) hm.2.2.2
      · simp [Memory.read]
    · split
      · next hk =>
        subst hk
        split
        · next hv => subst hv; exact Memory.read_below (Nat.lt_succ_self _) hm.2.2.2
        · simp [Memory.read]
      · next hlt hne => simpa [Memory.read, hne] using ih hm.2.2.2

/-- In a canonical memory a read after a write of the same address gives the byte written. -/
theorem Memory.read_write_same {m : Memory} (hm : m.wf = true) (x : Nat) (v : Byte) : (m.write x v).read x = v :=
  Memory.read_write_same_from hm x v

theorem Memory.write_wfFrom {lo : Nat} {m : Memory} (hm : Memory.wfFrom lo m = true) {x : Nat} (hlo : lo ≤ x)
    (hx : x < Memory.size) (v : Byte) : Memory.wfFrom lo (m.write x v) = true := by
  induction m generalizing lo with
  | nil =>
    by_cases hv : v = Memory.unlisted
    · simp [Memory.write, hv, Memory.wfFrom]
    · simp [Memory.write, hv, Memory.wfFrom, hlo, hx]
  | cons p m ih =>
    obtain ⟨k, w⟩ := p
    have hm' := hm
    rw [Memory.wfFrom_cons] at hm'
    obtain ⟨h1, h2, h3, h4⟩ := hm'
    unfold Memory.write
    split
    · next hlt =>
      split
      · exact hm
      · next hv => rw [Memory.wfFrom_cons, Memory.wfFrom_cons]; exact ⟨hlo, hx, hv, by omega, h2, h3, h4⟩
    · split
      · next hk =>
        subst hk
        split
        · exact Memory.wfFrom_mono (by omega) h4
        · next hv => rw [Memory.wfFrom_cons]; exact ⟨h1, h2, hv, h4⟩
      · rw [Memory.wfFrom_cons]; exact ⟨h1, h2, h3, ih h4 (by omega)⟩

/-- A write inside the address space keeps the canonical form. -/
theorem Memory.write_wf {m : Memory} (hm : m.wf = true) {x : Nat} (hx : x < Memory.size) (v : Byte) :
    (m.write x v).wf = true :=
  Memory.write_wfFrom hm (Nat.zero_le _) hx v

/-- Every write through a 16-bit address keeps the canonical form. -/
theorem State.poke_wf {s : State} (hs : s.mem.wf = true) (x : Word) (v : Byte) : (s.poke x v).mem.wf = true :=
  Memory.write_wf hs (by simpa [Memory.size] using x.isLt) v

theorem State.peek_poke_other {x y : Word} (h : y ≠ x) (s : State) (v : Byte) : (s.poke x v).peek y = s.peek y :=
  Memory.read_write_other (by simpa [BitVec.toNat_inj] using h) s.mem v

theorem State.peek_poke_same {s : State} (hs : s.mem.wf = true) (x : Word) (v : Byte) : (s.poke x v).peek x = v :=
  Memory.read_write_same hs x.toNat v

theorem State.reset_mem_wf : State.reset.mem.wf = true := rfl

end Sys2Proof.Machine
end

