-- ==== Sys2Proof/Laws/State.lean ====
section
/-! SUPPORT. One lemma per field and update: what each named update of the state leaves in each field.
The updates of a register chosen by an operand and the gated accesses need a case split, done here once. -/

namespace Sys2Proof.Machine

/-! mem[x] <- v. -/

@[simp] theorem State.poke_a (s : State) (x : Word) (v : Byte) : (s.poke x v).a = s.a := rfl
@[simp] theorem State.poke_f (s : State) (x : Word) (v : Byte) : (s.poke x v).f = s.f := rfl
@[simp] theorem State.poke_b (s : State) (x : Word) (v : Byte) : (s.poke x v).b = s.b := rfl
@[simp] theorem State.poke_c (s : State) (x : Word) (v : Byte) : (s.poke x v).c = s.c := rfl
@[simp] theorem State.poke_d (s : State) (x : Word) (v : Byte) : (s.poke x v).d = s.d := rfl
@[simp] theorem State.poke_e (s : State) (x : Word) (v : Byte) : (s.poke x v).e = s.e := rfl
@[simp] theorem State.poke_h (s : State) (x : Word) (v : Byte) : (s.poke x v).h = s.h := rfl
@[simp] theorem State.poke_l (s : State) (x : Word) (v : Byte) : (s.poke x v).l = s.l := rfl
@[simp] theorem State.poke_sp (s : State) (x : Word) (v : Byte) : (s.poke x v).sp = s.sp := rfl
@[simp] theorem State.poke_pc (s : State) (x : Word) (v : Byte) : (s.poke x v).pc = s.pc := rfl
@[simp] theorem State.poke_ime (s : State) (x : Word) (v : Byte) : (s.poke x v).ime = s.ime := rfl
@[simp] theorem State.poke_prevIme (s : State) (x : Word) (v : Byte) : (s.poke x v).prevIme = s.prevIme := rfl
@[simp] theorem State.poke_halted (s : State) (x : Word) (v : Byte) : (s.poke x v).halted = s.halted := rfl
@[simp] theorem State.poke_stopped (s : State) (x : Word) (v : Byte) : (s.poke x v).stopped = s.stopped := rfl
@[simp] theorem State.poke_cycles (s : State) (x : Word) (v : Byte) : (s.poke x v).cycles = s.cycles := rfl
@[simp] theorem State.poke_pcWritten (s : State) (x : Word) (v : Byte) : (s.poke x v).pcWritten = s.pcWritten := rfl
@[simp] theorem State.poke_fault (s : State) (x : Word) (v : Byte) : (s.poke x v).fault = s.fault := rfl
@[simp] theorem State.poke_mode (s : State) (x : Word) (v : Byte) : (s.poke x v).mode = s.mode := rfl
@[simp] theorem State.poke_ly (s : State) (x : Word) (v : Byte) : (s.poke x v).ly = s.ly := rfl
@[simp] theorem State.poke_acc (s : State) (x : Word) (v : Byte) : (s.poke x v).acc = s.acc := rfl
@[simp] theorem State.poke_fb (s : State) (x : Word) (v : Byte) : (s.poke x v).fb = s.fb := rfl
@[simp] theorem State.poke_bgIndex (s : State) (x : Word) (v : Byte) : (s.poke x v).bgIndex = s.bgIndex := rfl
@[simp] theorem State.poke_mem (s : State) (x : Word) (v : Byte) : (s.poke x v).mem = s.mem.write x.toNat v := rfl
@[simp] theorem State.poke_history (s : State) (x : Word) (v : Byte) : (s.poke x v).history = s.history := rfl
@[simp] theorem State.poke_draws (s : State) (x : Word) (v : Byte) : (s.poke x v).draws = s.draws := rfl
@[simp] theorem State.poke_params (s : State) (x : Word) (v : Byte) : (s.poke x v).params = s.params := rfl

/-! pc <- t. -/

@[simp] theorem State.jumpTo_a (s : State) (t : Word) : (s.jumpTo t).a = s.a := rfl
@[simp] theorem State.jumpTo_f (s : State) (t : Word) : (s.jumpTo t).f = s.f := rfl
@[simp] theorem State.jumpTo_b (s : State) (t : Word) : (s.jumpTo t).b = s.b := rfl
@[simp] theorem State.jumpTo_c (s : State) (t : Word) : (s.jumpTo t).c = s.c := rfl
@[simp] theorem State.jumpTo_d (s : State) (t : Word) : (s.jumpTo t).d = s.d := rfl
@[simp] theorem State.jumpTo_e (s : State) (t : Word) : (s.jumpTo t).e = s.e := rfl
@[simp] theorem State.jumpTo_h (s : State) (t : Word) : (s.jumpTo t).h = s.h := rfl
@[simp] theorem State.jumpTo_l (s : State) (t : Word) : (s.jumpTo t).l = s.l := rfl
@[simp] theorem State.jumpTo_sp (s : State) (t : Word) : (s.jumpTo t).sp = s.sp := rfl
@[simp] theorem State.jumpTo_pc (s : State) (t : Word) : (s.jumpTo t).pc = t := rfl
@[simp] theorem State.jumpTo_ime (s : State) (t : Word) : (s.jumpTo t).ime = s.ime := rfl
@[simp] theorem State.jumpTo_prevIme (s : State) (t : Word) : (s.jumpTo t).prevIme = s.prevIme := rfl
@[simp] theorem State.jumpTo_halted (s : State) (t : Word) : (s.jumpTo t).halted = s.halted := rfl
@[simp] theorem State.jumpTo_stopped (s : State) (t : Word) : (s.jumpTo t).stopped = s.stopped := rfl
@[simp] theorem State.jumpTo_cycles (s : State) (t : Word) : (s.jumpTo t).cycles = s.cycles := rfl
@[simp] theorem State.jumpTo_pcWritten (s : State) (t : Word) : (s.jumpTo t).pcWritten = true := rfl
@[simp] theorem State.jumpTo_fault (s : State) (t : Word) : (s.jumpTo t).fault = s.fault := rfl
@[simp] theorem State.jumpTo_mode (s : State) (t : Word) : (s.jumpTo t).mode = s.mode := rfl
@[simp] theorem State.jumpTo_ly (s : State) (t : Word) : (s.jumpTo t).ly = s.ly := rfl
@[simp] theorem State.jumpTo_acc (s : State) (t : Word) : (s.jumpTo t).acc = s.acc := rfl
@[simp] theorem State.jumpTo_fb (s : State) (t : Word) : (s.jumpTo t).fb = s.fb := rfl
@[simp] theorem State.jumpTo_bgIndex (s : State) (t : Word) : (s.jumpTo t).bgIndex = s.bgIndex := rfl
@[simp] theorem State.jumpTo_mem (s : State) (t : Word) : (s.jumpTo t).mem = s.mem := rfl
@[simp] theorem State.jumpTo_history (s : State) (t : Word) : (s.jumpTo t).history = s.history := rfl
@[simp] theorem State.jumpTo_draws (s : State) (t : Word) : (s.jumpTo t).draws = s.draws := rfl
@[simp] theorem State.jumpTo_params (s : State) (t : Word) : (s.jumpTo t).params = s.params := rfl

/-! raise Fault. -/

@[simp] theorem State.raiseFault_a (s : State) (k : FaultKind) (i : Byte) (x : Word) : (s.raiseFault k i x).a = s.a := rfl
@[simp] theorem State.raiseFault_f (s : State) (k : FaultKind) (i : Byte) (x : Word) : (s.raiseFault k i x).f = s.f := rfl
@[simp] theorem State.raiseFault_b (s : State) (k : FaultKind) (i : Byte) (x : Word) : (s.raiseFault k i x).b = s.b := rfl
@[simp] theorem State.raiseFault_c (s : State) (k : FaultKind) (i : Byte) (x : Word) : (s.raiseFault k i x).c = s.c := rfl
@[simp] theorem State.raiseFault_d (s : State) (k : FaultKind) (i : Byte) (x : Word) : (s.raiseFault k i x).d = s.d := rfl
@[simp] theorem State.raiseFault_e (s : State) (k : FaultKind) (i : Byte) (x : Word) : (s.raiseFault k i x).e = s.e := rfl
@[simp] theorem State.raiseFault_h (s : State) (k : FaultKind) (i : Byte) (x : Word) : (s.raiseFault k i x).h = s.h := rfl
@[simp] theorem State.raiseFault_l (s : State) (k : FaultKind) (i : Byte) (x : Word) : (s.raiseFault k i x).l = s.l := rfl
@[simp] theorem State.raiseFault_sp (s : State) (k : FaultKind) (i : Byte) (x : Word) : (s.raiseFault k i x).sp = s.sp := rfl
@[simp] theorem State.raiseFault_pc (s : State) (k : FaultKind) (i : Byte) (x : Word) : (s.raiseFault k i x).pc = s.pc := rfl
@[simp] theorem State.raiseFault_ime (s : State) (k : FaultKind) (i : Byte) (x : Word) : (s.raiseFault k i x).ime = s.ime := rfl
@[simp] theorem State.raiseFault_prevIme (s : State) (k : FaultKind) (i : Byte) (x : Word) : (s.raiseFault k i x).prevIme = s.prevIme := rfl
@[simp] theorem State.raiseFault_halted (s : State) (k : FaultKind) (i : Byte) (x : Word) : (s.raiseFault k i x).halted = s.halted := rfl
@[simp] theorem State.raiseFault_stopped (s : State) (k : FaultKind) (i : Byte) (x : Word) : (s.raiseFault k i x).stopped = s.stopped := rfl
@[simp] theorem State.raiseFault_cycles (s : State) (k : FaultKind) (i : Byte) (x : Word) : (s.raiseFault k i x).cycles = s.cycles := rfl
@[simp] theorem State.raiseFault_pcWritten (s : State) (k : FaultKind) (i : Byte) (x : Word) : (s.raiseFault k i x).pcWritten = s.pcWritten := rfl
@[simp] theorem State.raiseFault_fault (s : State) (k : FaultKind) (i : Byte) (x : Word) : (s.raiseFault k i x).fault = some ⟨k, i, x⟩ := rfl
@[simp] theorem State.raiseFault_mode (s : State) (k : FaultKind) (i : Byte) (x : Word) : (s.raiseFault k i x).mode = s.mode := rfl
@[simp] theorem State.raiseFault_ly (s : State) (k : FaultKind) (i : Byte) (x : Word) : (s.raiseFault k i x).ly = s.ly := rfl
@[simp] theorem State.raiseFault_acc (s : State) (k : FaultKind) (i : Byte) (x : Word) : (s.raiseFault k i x).acc = s.acc := rfl
@[simp] theorem State.raiseFault_fb (s : State) (k : FaultKind) (i : Byte) (x : Word) : (s.raiseFault k i x).fb = s.fb := rfl
@[simp] theorem State.raiseFault_bgIndex (s : State) (k : FaultKind) (i : Byte) (x : Word) : (s.raiseFault k i x).bgIndex = s.bgIndex := rfl
@[simp] theorem State.raiseFault_mem (s : State) (k : FaultKind) (i : Byte) (x : Word) : (s.raiseFault k i x).mem = s.mem := rfl
@[simp] theorem State.raiseFault_history (s : State) (k : FaultKind) (i : Byte) (x : Word) : (s.raiseFault k i x).history = s.history := rfl
@[simp] theorem State.raiseFault_draws (s : State) (k : FaultKind) (i : Byte) (x : Word) : (s.raiseFault k i x).draws = s.draws := rfl
@[simp] theorem State.raiseFault_params (s : State) (k : FaultKind) (i : Byte) (x : Word) : (s.raiseFault k i x).params = s.params := rfl

/-! The flag quadruple. -/

@[simp] theorem State.setFlags_a (s : State) (g : Flags) : (s.setFlags g).a = s.a := rfl
@[simp] theorem State.setFlags_f (s : State) (g : Flags) : (s.setFlags g).f = g.toByte := rfl
@[simp] theorem State.setFlags_b (s : State) (g : Flags) : (s.setFlags g).b = s.b := rfl
@[simp] theorem State.setFlags_c (s : State) (g : Flags) : (s.setFlags g).c = s.c := rfl
@[simp] theorem State.setFlags_d (s : State) (g : Flags) : (s.setFlags g).d = s.d := rfl
@[simp] theorem State.setFlags_e (s : State) (g : Flags) : (s.setFlags g).e = s.e := rfl
@[simp] theorem State.setFlags_h (s : State) (g : Flags) : (s.setFlags g).h = s.h := rfl
@[simp] theorem State.setFlags_l (s : State) (g : Flags) : (s.setFlags g).l = s.l := rfl
@[simp] theorem State.setFlags_sp (s : State) (g : Flags) : (s.setFlags g).sp = s.sp := rfl
@[simp] theorem State.setFlags_pc (s : State) (g : Flags) : (s.setFlags g).pc = s.pc := rfl
@[simp] theorem State.setFlags_ime (s : State) (g : Flags) : (s.setFlags g).ime = s.ime := rfl
@[simp] theorem State.setFlags_prevIme (s : State) (g : Flags) : (s.setFlags g).prevIme = s.prevIme := rfl
@[simp] theorem State.setFlags_halted (s : State) (g : Flags) : (s.setFlags g).halted = s.halted := rfl
@[simp] theorem State.setFlags_stopped (s : State) (g : Flags) : (s.setFlags g).stopped = s.stopped := rfl
@[simp] theorem State.setFlags_cycles (s : State) (g : Flags) : (s.setFlags g).cycles = s.cycles := rfl
@[simp] theorem State.setFlags_pcWritten (s : State) (g : Flags) : (s.setFlags g).pcWritten = s.pcWritten := rfl
@[simp] theorem State.setFlags_fault (s : State) (g : Flags) : (s.setFlags g).fault = s.fault := rfl
@[simp] theorem State.setFlags_mode (s : State) (g : Flags) : (s.setFlags g).mode = s.mode := rfl
@[simp] theorem State.setFlags_ly (s : State) (g : Flags) : (s.setFlags g).ly = s.ly := rfl
@[simp] theorem State.setFlags_acc (s : State) (g : Flags) : (s.setFlags g).acc = s.acc := rfl
@[simp] theorem State.setFlags_fb (s : State) (g : Flags) : (s.setFlags g).fb = s.fb := rfl
@[simp] theorem State.setFlags_bgIndex (s : State) (g : Flags) : (s.setFlags g).bgIndex = s.bgIndex := rfl
@[simp] theorem State.setFlags_mem (s : State) (g : Flags) : (s.setFlags g).mem = s.mem := rfl
@[simp] theorem State.setFlags_history (s : State) (g : Flags) : (s.setFlags g).history = s.history := rfl
@[simp] theorem State.setFlags_draws (s : State) (g : Flags) : (s.setFlags g).draws = s.draws := rfl
@[simp] theorem State.setFlags_params (s : State) (g : Flags) : (s.setFlags g).params = s.params := rfl

/-! x[HL] <- v. -/

@[simp] theorem State.setHl_a (s : State) (v : Word) : (s.setHl v).a = s.a := rfl
@[simp] theorem State.setHl_f (s : State) (v : Word) : (s.setHl v).f = s.f := rfl
@[simp] theorem State.setHl_b (s : State) (v : Word) : (s.setHl v).b = s.b := rfl
@[simp] theorem State.setHl_c (s : State) (v : Word) : (s.setHl v).c = s.c := rfl
@[simp] theorem State.setHl_d (s : State) (v : Word) : (s.setHl v).d = s.d := rfl
@[simp] theorem State.setHl_e (s : State) (v : Word) : (s.setHl v).e = s.e := rfl
@[simp] theorem State.setHl_h (s : State) (v : Word) : (s.setHl v).h = hiByte v := rfl
@[simp] theorem State.setHl_l (s : State) (v : Word) : (s.setHl v).l = loByte v := rfl
@[simp] theorem State.setHl_sp (s : State) (v : Word) : (s.setHl v).sp = s.sp := rfl
@[simp] theorem State.setHl_pc (s : State) (v : Word) : (s.setHl v).pc = s.pc := rfl
@[simp] theorem State.setHl_ime (s : State) (v : Word) : (s.setHl v).ime = s.ime := rfl
@[simp] theorem State.setHl_prevIme (s : State) (v : Word) : (s.setHl v).prevIme = s.prevIme := rfl
@[simp] theorem State.setHl_halted (s : State) (v : Word) : (s.setHl v).halted = s.halted := rfl
@[simp] theorem State.setHl_stopped (s : State) (v : Word) : (s.setHl v).stopped = s.stopped := rfl
@[simp] theorem State.setHl_cycles (s : State) (v : Word) : (s.setHl v).cycles = s.cycles := rfl
@[simp] theorem State.setHl_pcWritten (s : State) (v : Word) : (s.setHl v).pcWritten = s.pcWritten := rfl
@[simp] theorem State.setHl_fault (s : State) (v : Word) : (s.setHl v).fault = s.fault := rfl
@[simp] theorem State.setHl_mode (s : State) (v : Word) : (s.setHl v).mode = s.mode := rfl
@[simp] theorem State.setHl_ly (s : State) (v : Word) : (s.setHl v).ly = s.ly := rfl
@[simp] theorem State.setHl_acc (s : State) (v : Word) : (s.setHl v).acc = s.acc := rfl
@[simp] theorem State.setHl_fb (s : State) (v : Word) : (s.setHl v).fb = s.fb := rfl
@[simp] theorem State.setHl_bgIndex (s : State) (v : Word) : (s.setHl v).bgIndex = s.bgIndex := rfl
@[simp] theorem State.setHl_mem (s : State) (v : Word) : (s.setHl v).mem = s.mem := rfl
@[simp] theorem State.setHl_history (s : State) (v : Word) : (s.setHl v).history = s.history := rfl
@[simp] theorem State.setHl_draws (s : State) (v : Word) : (s.setHl v).draws = s.draws := rfl
@[simp] theorem State.setHl_params (s : State) (v : Word) : (s.setHl v).params = s.params := rfl

/-! One row of the framebuffer. -/

@[simp] theorem State.setFbRow_a (s : State) (y : Nat) (row : List Rgba) : (s.setFbRow y row).a = s.a := rfl
@[simp] theorem State.setFbRow_f (s : State) (y : Nat) (row : List Rgba) : (s.setFbRow y row).f = s.f := rfl
@[simp] theorem State.setFbRow_b (s : State) (y : Nat) (row : List Rgba) : (s.setFbRow y row).b = s.b := rfl
@[simp] theorem State.setFbRow_c (s : State) (y : Nat) (row : List Rgba) : (s.setFbRow y row).c = s.c := rfl
@[simp] theorem State.setFbRow_d (s : State) (y : Nat) (row : List Rgba) : (s.setFbRow y row).d = s.d := rfl
@[simp] theorem State.setFbRow_e (s : State) (y : Nat) (row : List Rgba) : (s.setFbRow y row).e = s.e := rfl
@[simp] theorem State.setFbRow_h (s : State) (y : Nat) (row : List Rgba) : (s.setFbRow y row).h = s.h := rfl
@[simp] theorem State.setFbRow_l (s : State) (y : Nat) (row : List Rgba) : (s.setFbRow y row).l = s.l := rfl
@[simp] theorem State.setFbRow_sp (s : State) (y : Nat) (row : List Rgba) : (s.setFbRow y row).sp = s.sp := rfl
@[simp] theorem State.setFbRow_pc (s : State) (y : Nat) (row : List Rgba) : (s.setFbRow y row).pc = s.pc := rfl
@[simp] theorem State.setFbRow_ime (s : State) (y : Nat) (row : List Rgba) : (s.setFbRow y row).ime = s.ime := rfl
@[simp] theorem State.setFbRow_prevIme (s : State) (y : Nat) (row : List Rgba) : (s.setFbRow y row).prevIme = s.prevIme := rfl
@[simp] theorem State.setFbRow_halted (s : State) (y : Nat) (row : List Rgba) : (s.setFbRow y row).halted = s.halted := rfl
@[simp] theorem State.setFbRow_stopped (s : State) (y : Nat) (row : List Rgba) : (s.setFbRow y row).stopped = s.stopped := rfl
@[simp] theorem State.setFbRow_cycles (s : State) (y : Nat) (row : List Rgba) : (s.setFbRow y row).cycles = s.cycles := rfl
@[simp] theorem State.setFbRow_pcWritten (s : State) (y : Nat) (row : List Rgba) : (s.setFbRow y row).pcWritten = s.pcWritten := rfl
@[simp] theorem State.setFbRow_fault (s : State) (y : Nat) (row : List Rgba) : (s.setFbRow y row).fault = s.fault := rfl
@[simp] theorem State.setFbRow_mode (s : State) (y : Nat) (row : List Rgba) : (s.setFbRow y row).mode = s.mode := rfl
@[simp] theorem State.setFbRow_ly (s : State) (y : Nat) (row : List Rgba) : (s.setFbRow y row).ly = s.ly := rfl
@[simp] theorem State.setFbRow_acc (s : State) (y : Nat) (row : List Rgba) : (s.setFbRow y row).acc = s.acc := rfl
@[simp] theorem State.setFbRow_fb (s : State) (y : Nat) (row : List Rgba) : (s.setFbRow y row).fb = s.fb.set y row := rfl
@[simp] theorem State.setFbRow_bgIndex (s : State) (y : Nat) (row : List Rgba) : (s.setFbRow y row).bgIndex = s.bgIndex := rfl
@[simp] theorem State.setFbRow_mem (s : State) (y : Nat) (row : List Rgba) : (s.setFbRow y row).mem = s.mem := rfl
@[simp] theorem State.setFbRow_history (s : State) (y : Nat) (row : List Rgba) : (s.setFbRow y row).history = s.history := rfl
@[simp] theorem State.setFbRow_draws (s : State) (y : Nat) (row : List Rgba) : (s.setFbRow y row).draws = s.draws := rfl
@[simp] theorem State.setFbRow_params (s : State) (y : Nat) (row : List Rgba) : (s.setFbRow y row).params = s.params := rfl

/-! x[r] <- v, the fields no 8-bit operand names. -/

@[simp] theorem State.setReg8_f (s : State) (r : Reg8) (v : Byte) : (s.setReg8 r v).f = s.f := by cases r <;> rfl
@[simp] theorem State.setReg8_sp (s : State) (r : Reg8) (v : Byte) : (s.setReg8 r v).sp = s.sp := by cases r <;> rfl
@[simp] theorem State.setReg8_pc (s : State) (r : Reg8) (v : Byte) : (s.setReg8 r v).pc = s.pc := by cases r <;> rfl
@[simp] theorem State.setReg8_ime (s : State) (r : Reg8) (v : Byte) : (s.setReg8 r v).ime = s.ime := by cases r <;> rfl
@[simp] theorem State.setReg8_prevIme (s : State) (r : Reg8) (v : Byte) : (s.setReg8 r v).prevIme = s.prevIme := by cases r <;> rfl
@[simp] theorem State.setReg8_halted (s : State) (r : Reg8) (v : Byte) : (s.setReg8 r v).halted = s.halted := by cases r <;> rfl
@[simp] theorem State.setReg8_stopped (s : State) (r : Reg8) (v : Byte) : (s.setReg8 r v).stopped = s.stopped := by cases r <;> rfl
@[simp] theorem State.setReg8_cycles (s : State) (r : Reg8) (v : Byte) : (s.setReg8 r v).cycles = s.cycles := by cases r <;> rfl
@[simp] theorem State.setReg8_pcWritten (s : State) (r : Reg8) (v : Byte) : (s.setReg8 r v).pcWritten = s.pcWritten := by cases r <;> rfl
@[simp] theorem State.setReg8_fault (s : State) (r : Reg8) (v : Byte) : (s.setReg8 r v).fault = s.fault := by cases r <;> rfl
@[simp] theorem State.setReg8_mode (s : State) (r : Reg8) (v : Byte) : (s.setReg8 r v).mode = s.mode := by cases r <;> rfl
@[simp] theorem State.setReg8_ly (s : State) (r : Reg8) (v : Byte) : (s.setReg8 r v).ly = s.ly := by cases r <;> rfl
@[simp] theorem State.setReg8_acc (s : State) (r : Reg8) (v : Byte) : (s.setReg8 r v).acc = s.acc := by cases r <;> rfl
@[simp] theorem State.setReg8_fb (s : State) (r : Reg8) (v : Byte) : (s.setReg8 r v).fb = s.fb := by cases r <;> rfl
@[simp] theorem State.setReg8_bgIndex (s : State) (r : Reg8) (v : Byte) : (s.setReg8 r v).bgIndex = s.bgIndex := by cases r <;> rfl
@[simp] theorem State.setReg8_mem (s : State) (r : Reg8) (v : Byte) : (s.setReg8 r v).mem = s.mem := by cases r <;> rfl
@[simp] theorem State.setReg8_history (s : State) (r : Reg8) (v : Byte) : (s.setReg8 r v).history = s.history := by cases r <;> rfl
@[simp] theorem State.setReg8_draws (s : State) (r : Reg8) (v : Byte) : (s.setReg8 r v).draws = s.draws := by cases r <;> rfl
@[simp] theorem State.setReg8_params (s : State) (r : Reg8) (v : Byte) : (s.setReg8 r v).params = s.params := by cases r <;> rfl

/-! x[rr] <- v, the fields no pair of the SP set names. -/

@[simp] theorem State.setReg16_a (s : State) (r : Reg16) (v : Word) : (s.setReg16 r v).a = s.a := by cases r <;> rfl
@[simp] theorem State.setReg16_f (s : State) (r : Reg16) (v : Word) : (s.setReg16 r v).f = s.f := by cases r <;> rfl
@[simp] theorem State.setReg16_pc (s : State) (r : Reg16) (v : Word) : (s.setReg16 r v).pc = s.pc := by cases r <;> rfl
@[simp] theorem State.setReg16_ime (s : State) (r : Reg16) (v : Word) : (s.setReg16 r v).ime = s.ime := by cases r <;> rfl
@[simp] theorem State.setReg16_prevIme (s : State) (r : Reg16) (v : Word) : (s.setReg16 r v).prevIme = s.prevIme := by cases r <;> rfl
@[simp] theorem State.setReg16_halted (s : State) (r : Reg16) (v : Word) : (s.setReg16 r v).halted = s.halted := by cases r <;> rfl
@[simp] theorem State.setReg16_stopped (s : State) (r : Reg16) (v : Word) : (s.setReg16 r v).stopped = s.stopped := by cases r <;> rfl
@[simp] theorem State.setReg16_cycles (s : State) (r : Reg16) (v : Word) : (s.setReg16 r v).cycles = s.cycles := by cases r <;> rfl
@[simp] theorem State.setReg16_pcWritten (s : State) (r : Reg16) (v : Word) : (s.setReg16 r v).pcWritten = s.pcWritten := by cases r <;> rfl
@[simp] theorem State.setReg16_fault (s : State) (r : Reg16) (v : Word) : (s.setReg16 r v).fault = s.fault := by cases r <;> rfl
@[simp] theorem State.setReg16_mode (s : State) (r : Reg16) (v : Word) : (s.setReg16 r v).mode = s.mode := by cases r <;> rfl
@[simp] theorem State.setReg16_ly (s : State) (r : Reg16) (v : Word) : (s.setReg16 r v).ly = s.ly := by cases r <;> rfl
@[simp] theorem State.setReg16_acc (s : State) (r : Reg16) (v : Word) : (s.setReg16 r v).acc = s.acc := by cases r <;> rfl
@[simp] theorem State.setReg16_fb (s : State) (r : Reg16) (v : Word) : (s.setReg16 r v).fb = s.fb := by cases r <;> rfl
@[simp] theorem State.setReg16_bgIndex (s : State) (r : Reg16) (v : Word) : (s.setReg16 r v).bgIndex = s.bgIndex := by cases r <;> rfl
@[simp] theorem State.setReg16_mem (s : State) (r : Reg16) (v : Word) : (s.setReg16 r v).mem = s.mem := by cases r <;> rfl
@[simp] theorem State.setReg16_history (s : State) (r : Reg16) (v : Word) : (s.setReg16 r v).history = s.history := by cases r <;> rfl
@[simp] theorem State.setReg16_draws (s : State) (r : Reg16) (v : Word) : (s.setReg16 r v).draws = s.draws := by cases r <;> rfl
@[simp] theorem State.setReg16_params (s : State) (r : Reg16) (v : Word) : (s.setReg16 r v).params = s.params := by cases r <;> rfl

/-! x[rr] <- v, the fields no pair of the AF set names. -/

@[simp] theorem State.setRegStk_sp (s : State) (r : Reg16Stk) (v : Word) : (s.setRegStk r v).sp = s.sp := by cases r <;> rfl
@[simp] theorem State.setRegStk_pc (s : State) (r : Reg16Stk) (v : Word) : (s.setRegStk r v).pc = s.pc := by cases r <;> rfl
@[simp] theorem State.setRegStk_ime (s : State) (r : Reg16Stk) (v : Word) : (s.setRegStk r v).ime = s.ime := by cases r <;> rfl
@[simp] theorem State.setRegStk_prevIme (s : State) (r : Reg16Stk) (v : Word) : (s.setRegStk r v).prevIme = s.prevIme := by cases r <;> rfl
@[simp] theorem State.setRegStk_halted (s : State) (r : Reg16Stk) (v : Word) : (s.setRegStk r v).halted = s.halted := by cases r <;> rfl
@[simp] theorem State.setRegStk_stopped (s : State) (r : Reg16Stk) (v : Word) : (s.setRegStk r v).stopped = s.stopped := by cases r <;> rfl
@[simp] theorem State.setRegStk_cycles (s : State) (r : Reg16Stk) (v : Word) : (s.setRegStk r v).cycles = s.cycles := by cases r <;> rfl
@[simp] theorem State.setRegStk_pcWritten (s : State) (r : Reg16Stk) (v : Word) : (s.setRegStk r v).pcWritten = s.pcWritten := by cases r <;> rfl
@[simp] theorem State.setRegStk_fault (s : State) (r : Reg16Stk) (v : Word) : (s.setRegStk r v).fault = s.fault := by cases r <;> rfl
@[simp] theorem State.setRegStk_mode (s : State) (r : Reg16Stk) (v : Word) : (s.setRegStk r v).mode = s.mode := by cases r <;> rfl
@[simp] theorem State.setRegStk_ly (s : State) (r : Reg16Stk) (v : Word) : (s.setRegStk r v).ly = s.ly := by cases r <;> rfl
@[simp] theorem State.setRegStk_acc (s : State) (r : Reg16Stk) (v : Word) : (s.setRegStk r v).acc = s.acc := by cases r <;> rfl
@[simp] theorem State.setRegStk_fb (s : State) (r : Reg16Stk) (v : Word) : (s.setRegStk r v).fb = s.fb := by cases r <;> rfl
@[simp] theorem State.setRegStk_bgIndex (s : State) (r : Reg16Stk) (v : Word) : (s.setRegStk r v).bgIndex = s.bgIndex := by cases r <;> rfl
@[simp] theorem State.setRegStk_mem (s : State) (r : Reg16Stk) (v : Word) : (s.setRegStk r v).mem = s.mem := by cases r <;> rfl
@[simp] theorem State.setRegStk_history (s : State) (r : Reg16Stk) (v : Word) : (s.setRegStk r v).history = s.history := by cases r <;> rfl
@[simp] theorem State.setRegStk_draws (s : State) (r : Reg16Stk) (v : Word) : (s.setRegStk r v).draws = s.draws := by cases r <;> rfl
@[simp] theorem State.setRegStk_params (s : State) (r : Reg16Stk) (v : Word) : (s.setRegStk r v).params = s.params := by cases r <;> rfl

/-! MemRead: only the device history changes. -/

@[simp] theorem State.memRead_a (s : State) (x : Word) : ((s.memRead x).2).a = s.a := by unfold State.memRead; split <;> (try split) <;> rfl
@[simp] theorem State.memRead_f (s : State) (x : Word) : ((s.memRead x).2).f = s.f := by unfold State.memRead; split <;> (try split) <;> rfl
@[simp] theorem State.memRead_b (s : State) (x : Word) : ((s.memRead x).2).b = s.b := by unfold State.memRead; split <;> (try split) <;> rfl
@[simp] theorem State.memRead_c (s : State) (x : Word) : ((s.memRead x).2).c = s.c := by unfold State.memRead; split <;> (try split) <;> rfl
@[simp] theorem State.memRead_d (s : State) (x : Word) : ((s.memRead x).2).d = s.d := by unfold State.memRead; split <;> (try split) <;> rfl
@[simp] theorem State.memRead_e (s : State) (x : Word) : ((s.memRead x).2).e = s.e := by unfold State.memRead; split <;> (try split) <;> rfl
@[simp] theorem State.memRead_h (s : State) (x : Word) : ((s.memRead x).2).h = s.h := by unfold State.memRead; split <;> (try split) <;> rfl
@[simp] theorem State.memRead_l (s : State) (x : Word) : ((s.memRead x).2).l = s.l := by unfold State.memRead; split <;> (try split) <;> rfl
@[simp] theorem State.memRead_sp (s : State) (x : Word) : ((s.memRead x).2).sp = s.sp := by unfold State.memRead; split <;> (try split) <;> rfl
@[simp] theorem State.memRead_pc (s : State) (x : Word) : ((s.memRead x).2).pc = s.pc := by unfold State.memRead; split <;> (try split) <;> rfl
@[simp] theorem State.memRead_ime (s : State) (x : Word) : ((s.memRead x).2).ime = s.ime := by unfold State.memRead; split <;> (try split) <;> rfl
@[simp] theorem State.memRead_prevIme (s : State) (x : Word) : ((s.memRead x).2).prevIme = s.prevIme := by unfold State.memRead; split <;> (try split) <;> rfl
@[simp] theorem State.memRead_halted (s : State) (x : Word) : ((s.memRead x).2).halted = s.halted := by unfold State.memRead; split <;> (try split) <;> rfl
@[simp] theorem State.memRead_stopped (s : State) (x : Word) : ((s.memRead x).2).stopped = s.stopped := by unfold State.memRead; split <;> (try split) <;> rfl
@[simp] theorem State.memRead_cycles (s : State) (x : Word) : ((s.memRead x).2).cycles = s.cycles := by unfold State.memRead; split <;> (try split) <;> rfl
@[simp] theorem State.memRead_pcWritten (s : State) (x : Word) : ((s.memRead x).2).pcWritten = s.pcWritten := by unfold State.memRead; split <;> (try split) <;> rfl
@[simp] theorem State.memRead_fault (s : State) (x : Word) : ((s.memRead x).2).fault = s.fault := by unfold State.memRead; split <;> (try split) <;> rfl
@[simp] theorem State.memRead_mode (s : State) (x : Word) : ((s.memRead x).2).mode = s.mode := by unfold State.memRead; split <;> (try split) <;> rfl
@[simp] theorem State.memRead_ly (s : State) (x : Word) : ((s.memRead x).2).ly = s.ly := by unfold State.memRead; split <;> (try split) <;> rfl
@[simp] theorem State.memRead_acc (s : State) (x : Word) : ((s.memRead x).2).acc = s.acc := by unfold State.memRead; split <;> (try split) <;> rfl
@[simp] theorem State.memRead_fb (s : State) (x : Word) : ((s.memRead x).2).fb = s.fb := by unfold State.memRead; split <;> (try split) <;> rfl
@[simp] theorem State.memRead_bgIndex (s : State) (x : Word) : ((s.memRead x).2).bgIndex = s.bgIndex := by unfold State.memRead; split <;> (try split) <;> rfl
@[simp] theorem State.memRead_mem (s : State) (x : Word) : ((s.memRead x).2).mem = s.mem := by unfold State.memRead; split <;> (try split) <;> rfl
@[simp] theorem State.memRead_draws (s : State) (x : Word) : ((s.memRead x).2).draws = s.draws := by unfold State.memRead; split <;> (try split) <;> rfl
@[simp] theorem State.memRead_params (s : State) (x : Word) : ((s.memRead x).2).params = s.params := by unfold State.memRead; split <;> (try split) <;> rfl

/-! MemWrite: only memory and the device history change. -/

@[simp] theorem State.memWrite_a (s : State) (x : Word) (v : Byte) : (s.memWrite x v).a = s.a := by unfold State.memWrite; split <;> (try split) <;> rfl
@[simp] theorem State.memWrite_f (s : State) (x : Word) (v : Byte) : (s.memWrite x v).f = s.f := by unfold State.memWrite; split <;> (try split) <;> rfl
@[simp] theorem State.memWrite_b (s : State) (x : Word) (v : Byte) : (s.memWrite x v).b = s.b := by unfold State.memWrite; split <;> (try split) <;> rfl
@[simp] theorem State.memWrite_c (s : State) (x : Word) (v : Byte) : (s.memWrite x v).c = s.c := by unfold State.memWrite; split <;> (try split) <;> rfl
@[simp] theorem State.memWrite_d (s : State) (x : Word) (v : Byte) : (s.memWrite x v).d = s.d := by unfold State.memWrite; split <;> (try split) <;> rfl
@[simp] theorem State.memWrite_e (s : State) (x : Word) (v : Byte) : (s.memWrite x v).e = s.e := by unfold State.memWrite; split <;> (try split) <;> rfl
@[simp] theorem State.memWrite_h (s : State) (x : Word) (v : Byte) : (s.memWrite x v).h = s.h := by unfold State.memWrite; split <;> (try split) <;> rfl
@[simp] theorem State.memWrite_l (s : State) (x : Word) (v : Byte) : (s.memWrite x v).l = s.l := by unfold State.memWrite; split <;> (try split) <;> rfl
@[simp] theorem State.memWrite_sp (s : State) (x : Word) (v : Byte) : (s.memWrite x v).sp = s.sp := by unfold State.memWrite; split <;> (try split) <;> rfl
@[simp] theorem State.memWrite_pc (s : State) (x : Word) (v : Byte) : (s.memWrite x v).pc = s.pc := by unfold State.memWrite; split <;> (try split) <;> rfl
@[simp] theorem State.memWrite_ime (s : State) (x : Word) (v : Byte) : (s.memWrite x v).ime = s.ime := by unfold State.memWrite; split <;> (try split) <;> rfl
@[simp] theorem State.memWrite_prevIme (s : State) (x : Word) (v : Byte) : (s.memWrite x v).prevIme = s.prevIme := by unfold State.memWrite; split <;> (try split) <;> rfl
@[simp] theorem State.memWrite_halted (s : State) (x : Word) (v : Byte) : (s.memWrite x v).halted = s.halted := by unfold State.memWrite; split <;> (try split) <;> rfl
@[simp] theorem State.memWrite_stopped (s : State) (x : Word) (v : Byte) : (s.memWrite x v).stopped = s.stopped := by unfold State.memWrite; split <;> (try split) <;> rfl
@[simp] theorem State.memWrite_cycles (s : State) (x : Word) (v : Byte) : (s.memWrite x v).cycles = s.cycles := by unfold State.memWrite; split <;> (try split) <;> rfl
@[simp] theorem State.memWrite_pcWritten (s : State) (x : Word) (v : Byte) : (s.memWrite x v).pcWritten = s.pcWritten := by unfold State.memWrite; split <;> (try split) <;> rfl
@[simp] theorem State.memWrite_fault (s : State) (x : Word) (v : Byte) : (s.memWrite x v).fault = s.fault := by unfold State.memWrite; split <;> (try split) <;> rfl
@[simp] theorem State.memWrite_mode (s : State) (x : Word) (v : Byte) : (s.memWrite x v).mode = s.mode := by unfold State.memWrite; split <;> (try split) <;> rfl
@[simp] theorem State.memWrite_ly (s : State) (x : Word) (v : Byte) : (s.memWrite x v).ly = s.ly := by unfold State.memWrite; split <;> (try split) <;> rfl
@[simp] theorem State.memWrite_acc (s : State) (x : Word) (v : Byte) : (s.memWrite x v).acc = s.acc := by unfold State.memWrite; split <;> (try split) <;> rfl
@[simp] theorem State.memWrite_fb (s : State) (x : Word) (v : Byte) : (s.memWrite x v).fb = s.fb := by unfold State.memWrite; split <;> (try split) <;> rfl
@[simp] theorem State.memWrite_bgIndex (s : State) (x : Word) (v : Byte) : (s.memWrite x v).bgIndex = s.bgIndex := by unfold State.memWrite; split <;> (try split) <;> rfl
@[simp] theorem State.memWrite_draws (s : State) (x : Word) (v : Byte) : (s.memWrite x v).draws = s.draws := by unfold State.memWrite; split <;> (try split) <;> rfl
@[simp] theorem State.memWrite_params (s : State) (x : Word) (v : Byte) : (s.memWrite x v).params = s.params := by unfold State.memWrite; split <;> (try split) <;> rfl

/-! push16. -/

@[simp] theorem State.push16_a (s : State) (v : Word) : (s.push16 v).a = s.a := by simp [State.push16]
@[simp] theorem State.push16_f (s : State) (v : Word) : (s.push16 v).f = s.f := by simp [State.push16]
@[simp] theorem State.push16_b (s : State) (v : Word) : (s.push16 v).b = s.b := by simp [State.push16]
@[simp] theorem State.push16_c (s : State) (v : Word) : (s.push16 v).c = s.c := by simp [State.push16]
@[simp] theorem State.push16_d (s : State) (v : Word) : (s.push16 v).d = s.d := by simp [State.push16]
@[simp] theorem State.push16_e (s : State) (v : Word) : (s.push16 v).e = s.e := by simp [State.push16]
@[simp] theorem State.push16_h (s : State) (v : Word) : (s.push16 v).h = s.h := by simp [State.push16]
@[simp] theorem State.push16_l (s : State) (v : Word) : (s.push16 v).l = s.l := by simp [State.push16]
@[simp] theorem State.push16_sp (s : State) (v : Word) : (s.push16 v).sp = s.sp - 2 := rfl
@[simp] theorem State.push16_pc (s : State) (v : Word) : (s.push16 v).pc = s.pc := by simp [State.push16]
@[simp] theorem State.push16_ime (s : State) (v : Word) : (s.push16 v).ime = s.ime := by simp [State.push16]
@[simp] theorem State.push16_prevIme (s : State) (v : Word) : (s.push16 v).prevIme = s.prevIme := by simp [State.push16]
@[simp] theorem State.push16_halted (s : State) (v : Word) : (s.push16 v).halted = s.halted := by simp [State.push16]
@[simp] theorem State.push16_stopped (s : State) (v : Word) : (s.push16 v).stopped = s.stopped := by simp [State.push16]
@[simp] theorem State.push16_cycles (s : State) (v : Word) : (s.push16 v).cycles = s.cycles := by simp [State.push16]
@[simp] theorem State.push16_pcWritten (s : State) (v : Word) : (s.push16 v).pcWritten = s.pcWritten := by simp [State.push16]
@[simp] theorem State.push16_fault (s : State) (v : Word) : (s.push16 v).fault = s.fault := by simp [State.push16]
@[simp] theorem State.push16_mode (s : State) (v : Word) : (s.push16 v).mode = s.mode := by simp [State.push16]
@[simp] theorem State.push16_ly (s : State) (v : Word) : (s.push16 v).ly = s.ly := by simp [State.push16]
@[simp] theorem State.push16_acc (s : State) (v : Word) : (s.push16 v).acc = s.acc := by simp [State.push16]
@[simp] theorem State.push16_fb (s : State) (v : Word) : (s.push16 v).fb = s.fb := by simp [State.push16]
@[simp] theorem State.push16_bgIndex (s : State) (v : Word) : (s.push16 v).bgIndex = s.bgIndex := by simp [State.push16]
@[simp] theorem State.push16_draws (s : State) (v : Word) : (s.push16 v).draws = s.draws := by simp [State.push16]
@[simp] theorem State.push16_params (s : State) (v : Word) : (s.push16 v).params = s.params := by simp [State.push16]

/-! pop16. -/

@[simp] theorem State.pop16_a (s : State) : (s.pop16.2).a = s.a := by simp [State.pop16]
@[simp] theorem State.pop16_f (s : State) : (s.pop16.2).f = s.f := by simp [State.pop16]
@[simp] theorem State.pop16_b (s : State) : (s.pop16.2).b = s.b := by simp [State.pop16]
@[simp] theorem State.pop16_c (s : State) : (s.pop16.2).c = s.c := by simp [State.pop16]
@[simp] theorem State.pop16_d (s : State) : (s.pop16.2).d = s.d := by simp [State.pop16]
@[simp] theorem State.pop16_e (s : State) : (s.pop16.2).e = s.e := by simp [State.pop16]
@[simp] theorem State.pop16_h (s : State) : (s.pop16.2).h = s.h := by simp [State.pop16]
@[simp] theorem State.pop16_l (s : State) : (s.pop16.2).l = s.l := by simp [State.pop16]
@[simp] theorem State.pop16_sp (s : State) : (s.pop16.2).sp = s.sp + 2 := rfl
@[simp] theorem State.pop16_pc (s : State) : (s.pop16.2).pc = s.pc := by simp [State.pop16]
@[simp] theorem State.pop16_ime (s : State) : (s.pop16.2).ime = s.ime := by simp [State.pop16]
@[simp] theorem State.pop16_prevIme (s : State) : (s.pop16.2).prevIme = s.prevIme := by simp [State.pop16]
@[simp] theorem State.pop16_halted (s : State) : (s.pop16.2).halted = s.halted := by simp [State.pop16]
@[simp] theorem State.pop16_stopped (s : State) : (s.pop16.2).stopped = s.stopped := by simp [State.pop16]
@[simp] theorem State.pop16_cycles (s : State) : (s.pop16.2).cycles = s.cycles := by simp [State.pop16]
@[simp] theorem State.pop16_pcWritten (s : State) : (s.pop16.2).pcWritten = s.pcWritten := by simp [State.pop16]
@[simp] theorem State.pop16_fault (s : State) : (s.pop16.2).fault = s.fault := by simp [State.pop16]
@[simp] theorem State.pop16_mode (s : State) : (s.pop16.2).mode = s.mode := by simp [State.pop16]
@[simp] theorem State.pop16_ly (s : State) : (s.pop16.2).ly = s.ly := by simp [State.pop16]
@[simp] theorem State.pop16_acc (s : State) : (s.pop16.2).acc = s.acc := by simp [State.pop16]
@[simp] theorem State.pop16_fb (s : State) : (s.pop16.2).fb = s.fb := by simp [State.pop16]
@[simp] theorem State.pop16_bgIndex (s : State) : (s.pop16.2).bgIndex = s.bgIndex := by simp [State.pop16]
@[simp] theorem State.pop16_mem (s : State) : (s.pop16.2).mem = s.mem := by simp [State.pop16]
@[simp] theorem State.pop16_draws (s : State) : (s.pop16.2).draws = s.draws := by simp [State.pop16]
@[simp] theorem State.pop16_params (s : State) : (s.pop16.2).params = s.params := by simp [State.pop16]

end Sys2Proof.Machine
end

