-- ==== Sys2Proof/Laws/Access.lean ====
section
/-! SUPPORT. What a CPU-side access can do, said once per primitive: MemRead, MemWrite, push16, pop16; F's
low nibble; and the flag each condition tests. -/

namespace Sys2Proof.Machine

/-- MemRead changes the device history and nothing else. -/
theorem State.memRead_eq (s : State) (x : Word) :
    (s.memRead x).2 = { s with history := (s.memRead x).2.history } := by
  unfold State.memRead
  split <;> (try split) <;> rfl

/-- MemWrite changes memory and the device history and nothing else. -/
theorem State.memWrite_eq (s : State) (x : Word) (v : Byte) :
    s.memWrite x v = { s with mem := (s.memWrite x v).mem, history := (s.memWrite x v).history } := by
  unfold State.memWrite
  split <;> (try split) <;> rfl

/-- MemWrite either stores its byte or leaves memory as it was. -/
theorem State.memWrite_mem_cases (s : State) (x : Word) (v : Byte) :
    (s.memWrite x v).mem = s.mem ∨ (s.memWrite x v).mem = s.mem.write x.toNat v := by
  unfold State.memWrite
  split
  · exact .inl rfl
  · split
    · exact .inl rfl
    · exact .inr rfl

theorem State.memWrite_wf {s : State} (hs : s.mem.wf = true) (x : Word) (v : Byte) :
    (s.memWrite x v).mem.wf = true := by
  rcases s.memWrite_mem_cases x v with h | h <;> rw [h]
  · exact hs
  · exact State.poke_wf hs x v

/-- MemWrite leaves every byte but the one addressed. -/
theorem State.peek_memWrite_other {x y : Word} (h : y ≠ x) (s : State) (v : Byte) :
    (s.memWrite x v).peek y = s.peek y := by
  unfold State.peek
  rcases s.memWrite_mem_cases x v with hm | hm <;> rw [hm]
  exact Memory.read_write_other (by simpa [BitVec.toNat_inj] using h) s.mem v

/-- No CPU-side write reaches a closed address. -/
theorem State.peek_memWrite_blocked {s : State} {y : Word} (h : s.blocked y = true) (x : Word) (v : Byte) :
    (s.memWrite x v).peek y = s.peek y := by
  by_cases hx : y = x
  · subst hx
    simp [State.memWrite, h]
  · exact State.peek_memWrite_other hx s v

theorem State.peek_memRead (s : State) (x y : Word) : (s.memRead x).2.peek y = s.peek y := by
  simp [State.peek]

theorem State.push16_wf {s : State} (hs : s.mem.wf = true) (v : Word) : (s.push16 v).mem.wf = true :=
  State.memWrite_wf (State.memWrite_wf hs _ _) _ _

/-- A push leaves every byte but the two below the stack pointer. -/
theorem State.peek_push16_other {y : Word} (s : State) (v : Word) (h1 : y ≠ s.sp - 1) (h2 : y ≠ s.sp - 2) :
    (s.push16 v).peek y = s.peek y :=
  (State.peek_memWrite_other h2 _ _).trans (State.peek_memWrite_other h1 s _)

/-! The accesses neither read nor write the step-local flag pc_written. -/

theorem State.memRead_stepLocal (s : State) (x : Word) (b : Bool) :
    ({ s with pcWritten := b } : State).memRead x = ((s.memRead x).1, { (s.memRead x).2 with pcWritten := b }) := by
  unfold State.memRead State.blocked State.isDevice
  split
  · rfl
  · split <;> rfl

theorem State.memWrite_stepLocal (s : State) (x : Word) (v : Byte) (b : Bool) :
    ({ s with pcWritten := b } : State).memWrite x v = { s.memWrite x v with pcWritten := b } := by
  unfold State.memWrite State.blocked State.isDevice
  split
  · rfl
  · split <;> rfl

theorem State.push16_stepLocal (s : State) (v : Word) (b : Bool) :
    ({ s with pcWritten := b } : State).push16 v = { s.push16 v with pcWritten := b } := by
  simp only [State.push16, State.memWrite_stepLocal]

theorem State.pop16_stepLocal (s : State) (b : Bool) :
    ({ s with pcWritten := b } : State).pop16 = (s.pop16.1, { s.pop16.2 with pcWritten := b }) := by
  simp only [State.pop16, State.memRead_stepLocal]

/-! F's low nibble. -/

theorem Flags.toByte_low (g : Flags) : g.toByte &&& 0x0F = 0 := by
  obtain ⟨z, n, h, c⟩ := g
  revert z n h c
  decide

@[simp] theorem Flags.ofByte_toByte (g : Flags) : Flags.ofByte g.toByte = g := by
  obtain ⟨z, n, h, c⟩ := g
  revert z n h c
  decide

@[simp] theorem State.flags_setFlags (s : State) (g : Flags) : (s.setFlags g).flags = g :=
  Flags.ofByte_toByte g

/-! The flag each condition tests (30_encoding.md R76). -/

@[simp] theorem condHolds_nz (g : Flags) : condHolds .nz g = !g.z := rfl

@[simp] theorem condHolds_z (g : Flags) : condHolds .z g = g.z := rfl

@[simp] theorem condHolds_nc (g : Flags) : condHolds .nc g = !g.c := rfl

@[simp] theorem condHolds_c (g : Flags) : condHolds .c g = g.c := rfl

end Sys2Proof.Machine
end

