-- ==== Sys2Proof/Laws/Decode.lean ====
section
/-! SUPPORT. The tables of Decode.lean: their shape, the lengths they give, and the byte order of
words. -/

namespace Sys2Proof

/-- Every opcode byte has an entry in the grid: 16 rows of 16. -/
theorem opcodeGrid_covers : opcodeGrid.map List.length = List.replicate 16 16 := by decide

/-- So has the size table. -/
theorem sizeGrid_covers : sizeGrid.map List.length = List.replicate 16 16 := by decide

/-- The opcode decides the length: an opcode has as many immediates as its encoding has. -/
theorem encode_length (i : Instr) : (encode i).length = 1 + immediateCount i.opcode := by
  cases i <;> simp only [Instr.opcode, encode, List.headD] <;> rfl

@[simp] theorem wordOf_toNat (hi lo : Byte) : (wordOf hi lo).toNat = hi.toNat * 256 + lo.toNat := by
  simp only [wordOf, BitVec.toNat_ofNat]
  omega

@[simp] theorem hiByte_toNat (v : Word) : (hiByte v).toNat = v.toNat / 256 := by
  simp only [hiByte, BitVec.toNat_ofNat]
  omega

@[simp] theorem loByte_toNat (v : Word) : (loByte v).toNat = v.toNat % 256 := by
  simp only [loByte, BitVec.toNat_ofNat]
  omega

@[simp] theorem wordOf_hiByte_loByte (v : Word) : wordOf (hiByte v) (loByte v) = v := by
  apply BitVec.eq_of_toNat_eq
  simp only [wordOf_toNat, hiByte_toNat, loByte_toNat]
  omega

@[simp] theorem hiByte_wordOf (hi lo : Byte) : hiByte (wordOf hi lo) = hi := by
  apply BitVec.eq_of_toNat_eq
  simp only [wordOf_toNat, hiByte_toNat]
  omega

@[simp] theorem loByte_wordOf (hi lo : Byte) : loByte (wordOf hi lo) = lo := by
  apply BitVec.eq_of_toNat_eq
  simp only [wordOf_toNat, loByte_toNat]
  omega

end Sys2Proof
end

