-- ==== Sys2Proof/Laws/Exec.lean ====
section
/-! SUPPORT. What the effect of an instruction can do, said once: CpuEffect lists what every effect
keeps, each shared operation has one lemma, and exec_cases says that exec either completes an
instruction with such an effect or raises UnimplementedOpcode. -/

namespace Sys2Proof.Machine

/-- What the effect of an instruction, taking s to t, leaves alone or keeps. -/
structure CpuEffect (s t : State) : Prop where
  halted : t.halted = s.halted
  stopped : t.stopped = s.stopped
  cycles : t.cycles = s.cycles
  fault : t.fault = s.fault
  mode : t.mode = s.mode
  ly : t.ly = s.ly
  acc : t.acc = s.acc
  fb : t.fb = s.fb
  bgIndex : t.bgIndex = s.bgIndex
  draws : t.draws = s.draws
  params : t.params = s.params
  memory : s.mem.wf = true → t.mem.wf = true
  flags : s.f &&& 0x0F = 0 → t.f &&& 0x0F = 0
  history : ∃ es, t.history = s.history ++ es
  gate : ∀ x, s.blocked x = true → t.peek x = s.peek x

theorem CpuEffect.rfl {s : State} : CpuEffect s s :=
  ⟨.refl _, .refl _, .refl _, .refl _, .refl _, .refl _, .refl _, .refl _, .refl _, .refl _, .refl _, id, id, ⟨[], by simp⟩,
    fun _ _ => .refl _⟩

theorem CpuEffect.trans {s t u : State} (h : CpuEffect s t) (k : CpuEffect t u) : CpuEffect s u where
  halted := k.halted.trans h.halted
  stopped := k.stopped.trans h.stopped
  cycles := k.cycles.trans h.cycles
  fault := k.fault.trans h.fault
  mode := k.mode.trans h.mode
  ly := k.ly.trans h.ly
  acc := k.acc.trans h.acc
  fb := k.fb.trans h.fb
  bgIndex := k.bgIndex.trans h.bgIndex
  draws := k.draws.trans h.draws
  params := k.params.trans h.params
  memory := fun hs => k.memory (h.memory hs)
  flags := fun hs => k.flags (h.flags hs)
  history := by
    obtain ⟨e1, h1⟩ := h.history
    obtain ⟨e2, h2⟩ := k.history
    exact ⟨e1 ++ e2, by rw [h2, h1, List.append_assoc]⟩
  gate := fun x hx => (k.gate x (by unfold State.blocked; rw [h.mode]; exact hx)).trans (h.gate x hx)

/-- An update that touches neither the listed fields, memory, F nor the history. -/
theorem CpuEffect.of_eq {s t : State}
    (h : (t.halted, t.stopped, t.cycles, t.fault, t.mode, t.ly, t.acc, t.fb, t.bgIndex, t.draws, t.params, t.mem, t.history) =
      (s.halted, s.stopped, s.cycles, s.fault, s.mode, s.ly, s.acc, s.fb, s.bgIndex, s.draws, s.params, s.mem, s.history))
    (hf : s.f &&& 0x0F = 0 → t.f &&& 0x0F = 0) : CpuEffect s t := by
  simp only [Prod.mk.injEq] at h
  obtain ⟨h1, h2, h3, h4, h5, h6, h7, h8, h9, h10, h11, h12, h13⟩ := h
  exact ⟨h1, h2, h3, h4, h5, h6, h7, h8, h9, h10, h11, by rw [h12]; exact id, hf, ⟨[], by simp [h13]⟩,
    fun _ _ => by simp only [State.peek, h12]⟩

theorem State.memRead_history (s : State) (x : Word) : ∃ es, (s.memRead x).2.history = s.history ++ es := by
  unfold State.memRead
  split
  · exact ⟨[], by simp⟩
  · split
    · exact ⟨_, rfl⟩
    · exact ⟨[], by simp⟩

theorem State.memWrite_history (s : State) (x : Word) (v : Byte) :
    ∃ es, (s.memWrite x v).history = s.history ++ es := by
  unfold State.memWrite
  split
  · exact ⟨[], by simp⟩
  · split
    · exact ⟨_, rfl⟩
    · exact ⟨[], by simp [State.poke]⟩

theorem State.memRead_effect (s : State) (x : Word) : CpuEffect s (s.memRead x).2 := by
  rw [State.memRead_eq]
  exact ⟨rfl, rfl, rfl, rfl, rfl, rfl, rfl, rfl, rfl, rfl, rfl, id, id, s.memRead_history x, fun _ _ => rfl⟩

theorem State.memWrite_effect (s : State) (x : Word) (v : Byte) : CpuEffect s (s.memWrite x v) := by
  rw [State.memWrite_eq]
  exact ⟨rfl, rfl, rfl, rfl, rfl, rfl, rfl, rfl, rfl, rfl, rfl, fun hs => State.memWrite_wf hs x v, id,
    s.memWrite_history x v, fun y hy => by rw [← State.memWrite_eq]; exact State.peek_memWrite_blocked hy x v⟩

theorem State.setFlags_effect (s : State) (g : Flags) : CpuEffect s (s.setFlags g) :=
  .of_eq rfl fun _ => Flags.toByte_low g

theorem State.setHl_effect (s : State) (v : Word) : CpuEffect s (s.setHl v) := .of_eq rfl id

theorem State.setReg8_effect (s : State) (r : Reg8) (v : Byte) : CpuEffect s (s.setReg8 r v) :=
  .of_eq (by simp) (by simp)

theorem State.setReg16_effect (s : State) (r : Reg16) (v : Word) : CpuEffect s (s.setReg16 r v) :=
  .of_eq (by simp) (by simp)

theorem State.setRegStk_effect (s : State) (r : Reg16Stk) (v : Word) : CpuEffect s (s.setRegStk r v) := by
  refine .of_eq (by simp) ?_
  cases r <;> intro h <;> first | exact h | exact Flags.toByte_low _

theorem State.setA_effect (s : State) (v : Byte) : CpuEffect s { s with a := v } := .of_eq rfl id

theorem State.setSp_effect (s : State) (v : Word) : CpuEffect s { s with sp := v } := .of_eq rfl id

theorem State.jumpTo_effect (s : State) (v : Word) : CpuEffect s (s.jumpTo v) := .of_eq rfl id

theorem State.push16_effect (s : State) (v : Word) : CpuEffect s (s.push16 v) :=
  ((s.memWrite_effect _ _).trans (State.memWrite_effect _ _ _)).trans (State.setSp_effect _ _)

theorem State.pop16_effect (s : State) : CpuEffect s s.pop16.2 :=
  ((s.memRead_effect _).trans (State.memRead_effect _ _)).trans (State.setSp_effect _ _)

theorem State.returnFromInterrupt_effect (s : State) : CpuEffect s s.returnFromInterrupt :=
  (s.pop16_effect.trans (State.jumpTo_effect _ s.pop16.1)).trans (.of_eq rfl id)

theorem State.src8_effect (s : State) (src : Src8) : CpuEffect s (s.src8 src).2 := by
  cases src <;> first | exact .rfl | exact s.memRead_effect _

/-! One lemma per form. -/

theorem loadReg_effect (dst r : Reg8) (s : State) : CpuEffect s (loadReg dst r s) := s.setReg8_effect _ _

theorem loadImm_effect (dst : Reg8) (n : Byte) (s : State) : CpuEffect s (loadImm dst n s) := s.setReg8_effect _ _

theorem loadFrom_effect (dst : Reg8) (ad : State → Word) (s : State) : CpuEffect s (loadFrom dst ad s) :=
  (s.memRead_effect _).trans (State.setReg8_effect _ _ _)

theorem storeTo_effect (ad : State → Word) (v : State → Byte) (s : State) : CpuEffect s (storeTo ad v s) :=
  s.memWrite_effect _ _

theorem storeThenStepHl_effect (k : Word) (s : State) : CpuEffect s (storeThenStepHl k s) :=
  (s.memWrite_effect _ _).trans (State.setHl_effect _ _)

theorem loadThenStepHl_effect (k : Word) (s : State) : CpuEffect s (loadThenStepHl k s) :=
  ((s.memRead_effect _).trans (State.setA_effect _ _)).trans (State.setHl_effect _ _)

theorem storeSp_effect (x : Word) (s : State) : CpuEffect s (storeSp x s) :=
  (s.memWrite_effect _ _).trans (State.memWrite_effect _ _ _)

theorem loadSpFromHl_effect (s : State) : CpuEffect s (loadSpFromHl s) := s.setSp_effect _

theorem loadPair_effect (r : Reg16) (n : Word) (s : State) : CpuEffect s (loadPair r n s) := s.setReg16_effect _ _

theorem loadHlFromSp_effect (e : Byte) (s : State) : CpuEffect s (loadHlFromSp e s) :=
  (s.setHl_effect _).trans (State.setFlags_effect _ _)

theorem pushPair_effect (r : Reg16Stk) (s : State) : CpuEffect s (pushPair r s) := s.push16_effect _

theorem popPair_effect (r : Reg16Stk) (s : State) : CpuEffect s (popPair r s) :=
  s.pop16_effect.trans (State.setRegStk_effect _ _ _)

theorem accumulate_effect (op : AluOp) (src : Src8) (s : State) : CpuEffect s (accumulate op src s) :=
  ((s.src8_effect src).trans (State.setA_effect _ _)).trans (State.setFlags_effect _ _)

theorem incrementReg_effect (r : Reg8) (s : State) : CpuEffect s (incrementReg r s) :=
  (s.setReg8_effect _ _).trans (State.setFlags_effect _ _)

theorem decrementReg_effect (r : Reg8) (s : State) : CpuEffect s (decrementReg r s) :=
  (s.setReg8_effect _ _).trans (State.setFlags_effect _ _)

theorem incrementAtHl_effect (s : State) : CpuEffect s (incrementAtHl s) :=
  ((s.memRead_effect _).trans (State.memWrite_effect _ _ _)).trans (State.setFlags_effect _ _)

theorem decrementAtHl_effect (s : State) : CpuEffect s (decrementAtHl s) :=
  ((s.memRead_effect _).trans (State.memWrite_effect _ _ _)).trans (State.setFlags_effect _ _)

theorem setAcc_effect (s : State) (r : Byte × Flags) : CpuEffect s (setAcc s r) :=
  (s.setA_effect _).trans (State.setFlags_effect _ _)

theorem addToHl_effect (r : Reg16) (s : State) : CpuEffect s (addToHl r s) :=
  (s.setHl_effect _).trans (State.setFlags_effect _ _)

theorem incrementPair_effect (r : Reg16) (s : State) : CpuEffect s (incrementPair r s) := s.setReg16_effect _ _

theorem decrementPair_effect (r : Reg16) (s : State) : CpuEffect s (decrementPair r s) := s.setReg16_effect _ _

theorem addToSp_effect (e : Byte) (s : State) : CpuEffect s (addToSp e s) :=
  (s.setSp_effect _).trans (State.setFlags_effect _ _)

theorem jumpToHl_effect (s : State) : CpuEffect s (jumpToHl s) := s.jumpTo_effect _

theorem callTo_effect (k t : Word) (s : State) : CpuEffect s (callTo k t s) :=
  (s.push16_effect _).trans (State.jumpTo_effect _ _)

theorem returnFromCall_effect (s : State) : CpuEffect s (returnFromCall s) :=
  s.pop16_effect.trans (State.jumpTo_effect _ _)

theorem when_effect (cc : Cond) (body : State → State) (h : ∀ s, CpuEffect s (body s)) (s : State) :
    CpuEffect s (when cc body s) := by
  unfold when
  split
  · exact h s
  · exact .rfl

theorem setIme_effect (v : Bool) (s : State) : CpuEffect s (setIme v s) := .of_eq rfl id

theorem haltOrStop_cases (i : Instr) (s : State)
    (h : faults s.params i.opcode = (s.params.haltStop == .fault)) :
    (faults s.params i.opcode = false ∧ ∃ body, haltOrStop i s = complete i body s ∧ ∀ u, CpuEffect u (body u)) ∨
      (faults s.params i.opcode = true ∧ haltOrStop i s = unimplemented i s) := by
  unfold haltOrStop
  rw [h]
  cases s.params.haltStop
  · exact .inr ⟨rfl, rfl⟩
  · exact .inl ⟨rfl, _, rfl, fun _ => .rfl⟩

/-- Every instruction either completes with an effect that keeps what CpuEffect lists, or, exactly where
its opcode faults, raises UnimplementedOpcode. -/
theorem exec_cases (i : Instr) (s : State) :
    (faults s.params i.opcode = false ∧ ∃ body, exec i s = complete i body s ∧ ∀ u, CpuEffect u (body u)) ∨
      (faults s.params i.opcode = true ∧ exec i s = unimplemented i s) := by
  cases i with
  | nop => exact .inl ⟨(rfl : faults s.params 0x00 = false), _, rfl, fun _ => .rfl⟩
  | ldBcN16 _ => exact .inl ⟨(rfl : faults s.params 0x01 = false), _, rfl, loadPair_effect _ _⟩
  | ldAtBcA => exact .inl ⟨(rfl : faults s.params 0x02 = false), _, rfl, storeTo_effect _ _⟩
  | incBc => exact .inl ⟨(rfl : faults s.params 0x03 = false), _, rfl, incrementPair_effect _⟩
  | incB => exact .inl ⟨(rfl : faults s.params 0x04 = false), _, rfl, incrementReg_effect _⟩
  | decB => exact .inl ⟨(rfl : faults s.params 0x05 = false), _, rfl, decrementReg_effect _⟩
  | ldBN8 _ => exact .inl ⟨(rfl : faults s.params 0x06 = false), _, rfl, loadImm_effect _ _⟩
  | rlca => exact .inl ⟨(rfl : faults s.params 0x07 = false), _, rfl, fun s => setAcc_effect s _⟩
  | ldAtA16Sp _ => exact .inl ⟨(rfl : faults s.params 0x08 = false), _, rfl, storeSp_effect _⟩
  | addHlBc => exact .inl ⟨(rfl : faults s.params 0x09 = false), _, rfl, addToHl_effect _⟩
  | ldAAtBc => exact .inl ⟨(rfl : faults s.params 0x0A = false), _, rfl, loadFrom_effect _ _⟩
  | decBc => exact .inl ⟨(rfl : faults s.params 0x0B = false), _, rfl, decrementPair_effect _⟩
  | incC => exact .inl ⟨(rfl : faults s.params 0x0C = false), _, rfl, incrementReg_effect _⟩
  | decC => exact .inl ⟨(rfl : faults s.params 0x0D = false), _, rfl, decrementReg_effect _⟩
  | ldCN8 _ => exact .inl ⟨(rfl : faults s.params 0x0E = false), _, rfl, loadImm_effect _ _⟩
  | rrca => exact .inl ⟨(rfl : faults s.params 0x0F = false), _, rfl, fun s => setAcc_effect s _⟩
  | stop _ => exact haltOrStop_cases _ s (rfl : faults s.params 0x10 = (s.params.haltStop == .fault))
  | ldDeN16 _ => exact .inl ⟨(rfl : faults s.params 0x11 = false), _, rfl, loadPair_effect _ _⟩
  | ldAtDeA => exact .inl ⟨(rfl : faults s.params 0x12 = false), _, rfl, storeTo_effect _ _⟩
  | incDe => exact .inl ⟨(rfl : faults s.params 0x13 = false), _, rfl, incrementPair_effect _⟩
  | incD => exact .inl ⟨(rfl : faults s.params 0x14 = false), _, rfl, incrementReg_effect _⟩
  | decD => exact .inl ⟨(rfl : faults s.params 0x15 = false), _, rfl, decrementReg_effect _⟩
  | ldDN8 _ => exact .inl ⟨(rfl : faults s.params 0x16 = false), _, rfl, loadImm_effect _ _⟩
  | rla => exact .inl ⟨(rfl : faults s.params 0x17 = false), _, rfl, fun s => setAcc_effect s _⟩
  | jrE8 _ => exact .inl ⟨(rfl : faults s.params 0x18 = false), _, rfl, fun s => State.jumpTo_effect s _⟩
  | addHlDe => exact .inl ⟨(rfl : faults s.params 0x19 = false), _, rfl, addToHl_effect _⟩
  | ldAAtDe => exact .inl ⟨(rfl : faults s.params 0x1A = false), _, rfl, loadFrom_effect _ _⟩
  | decDe => exact .inl ⟨(rfl : faults s.params 0x1B = false), _, rfl, decrementPair_effect _⟩
  | incE => exact .inl ⟨(rfl : faults s.params 0x1C = false), _, rfl, incrementReg_effect _⟩
  | decE => exact .inl ⟨(rfl : faults s.params 0x1D = false), _, rfl, decrementReg_effect _⟩
  | ldEN8 _ => exact .inl ⟨(rfl : faults s.params 0x1E = false), _, rfl, loadImm_effect _ _⟩
  | rra => exact .inl ⟨(rfl : faults s.params 0x1F = false), _, rfl, fun s => setAcc_effect s _⟩
  | jrNzE8 _ => exact .inl ⟨(rfl : faults s.params 0x20 = false), _, rfl, when_effect _ _ (fun s => State.jumpTo_effect s _)⟩
  | ldHlN16 _ => exact .inl ⟨(rfl : faults s.params 0x21 = false), _, rfl, loadPair_effect _ _⟩
  | ldAtHlIncA => exact .inl ⟨(rfl : faults s.params 0x22 = false), _, rfl, storeThenStepHl_effect _⟩
  | incHl => exact .inl ⟨(rfl : faults s.params 0x23 = false), _, rfl, incrementPair_effect _⟩
  | incH => exact .inl ⟨(rfl : faults s.params 0x24 = false), _, rfl, incrementReg_effect _⟩
  | decH => exact .inl ⟨(rfl : faults s.params 0x25 = false), _, rfl, decrementReg_effect _⟩
  | ldHN8 _ => exact .inl ⟨(rfl : faults s.params 0x26 = false), _, rfl, loadImm_effect _ _⟩
  | daa => exact .inl ⟨(rfl : faults s.params 0x27 = false), _, rfl, fun s => setAcc_effect s _⟩
  | jrZE8 _ => exact .inl ⟨(rfl : faults s.params 0x28 = false), _, rfl, when_effect _ _ (fun s => State.jumpTo_effect s _)⟩
  | addHlHl => exact .inl ⟨(rfl : faults s.params 0x29 = false), _, rfl, addToHl_effect _⟩
  | ldAAtHlInc => exact .inl ⟨(rfl : faults s.params 0x2A = false), _, rfl, loadThenStepHl_effect _⟩
  | decHl => exact .inl ⟨(rfl : faults s.params 0x2B = false), _, rfl, decrementPair_effect _⟩
  | incL => exact .inl ⟨(rfl : faults s.params 0x2C = false), _, rfl, incrementReg_effect _⟩
  | decL => exact .inl ⟨(rfl : faults s.params 0x2D = false), _, rfl, decrementReg_effect _⟩
  | ldLN8 _ => exact .inl ⟨(rfl : faults s.params 0x2E = false), _, rfl, loadImm_effect _ _⟩
  | cpl => exact .inl ⟨(rfl : faults s.params 0x2F = false), _, rfl, fun s => setAcc_effect s _⟩
  | jrNcE8 _ => exact .inl ⟨(rfl : faults s.params 0x30 = false), _, rfl, when_effect _ _ (fun s => State.jumpTo_effect s _)⟩
  | ldSpN16 _ => exact .inl ⟨(rfl : faults s.params 0x31 = false), _, rfl, loadPair_effect _ _⟩
  | ldAtHlDecA => exact .inl ⟨(rfl : faults s.params 0x32 = false), _, rfl, storeThenStepHl_effect _⟩
  | incSp => exact .inl ⟨(rfl : faults s.params 0x33 = false), _, rfl, incrementPair_effect _⟩
  | incAtHl => exact .inl ⟨(rfl : faults s.params 0x34 = false), _, rfl, incrementAtHl_effect⟩
  | decAtHl => exact .inl ⟨(rfl : faults s.params 0x35 = false), _, rfl, decrementAtHl_effect⟩
  | ldAtHlN8 _ => exact .inl ⟨(rfl : faults s.params 0x36 = false), _, rfl, storeTo_effect _ _⟩
  | scf => exact .inl ⟨(rfl : faults s.params 0x37 = false), _, rfl, fun s => State.setFlags_effect s _⟩
  | jrCE8 _ => exact .inl ⟨(rfl : faults s.params 0x38 = false), _, rfl, when_effect _ _ (fun s => State.jumpTo_effect s _)⟩
  | addHlSp => exact .inl ⟨(rfl : faults s.params 0x39 = false), _, rfl, addToHl_effect _⟩
  | ldAAtHlDec => exact .inl ⟨(rfl : faults s.params 0x3A = false), _, rfl, loadThenStepHl_effect _⟩
  | decSp => exact .inl ⟨(rfl : faults s.params 0x3B = false), _, rfl, decrementPair_effect _⟩
  | incA => exact .inl ⟨(rfl : faults s.params 0x3C = false), _, rfl, incrementReg_effect _⟩
  | decA => exact .inl ⟨(rfl : faults s.params 0x3D = false), _, rfl, decrementReg_effect _⟩
  | ldAN8 _ => exact .inl ⟨(rfl : faults s.params 0x3E = false), _, rfl, loadImm_effect _ _⟩
  | ccf => exact .inl ⟨(rfl : faults s.params 0x3F = false), _, rfl, fun s => State.setFlags_effect s _⟩
  | ldBB => exact .inl ⟨(rfl : faults s.params 0x40 = false), _, rfl, loadReg_effect _ _⟩
  | ldBC => exact .inl ⟨(rfl : faults s.params 0x41 = false), _, rfl, loadReg_effect _ _⟩
  | ldBD => exact .inl ⟨(rfl : faults s.params 0x42 = false), _, rfl, loadReg_effect _ _⟩
  | ldBE => exact .inl ⟨(rfl : faults s.params 0x43 = false), _, rfl, loadReg_effect _ _⟩
  | ldBH => exact .inl ⟨(rfl : faults s.params 0x44 = false), _, rfl, loadReg_effect _ _⟩
  | ldBL => exact .inl ⟨(rfl : faults s.params 0x45 = false), _, rfl, loadReg_effect _ _⟩
  | ldBAtHl => exact .inl ⟨(rfl : faults s.params 0x46 = false), _, rfl, loadFrom_effect _ _⟩
  | ldBA => exact .inl ⟨(rfl : faults s.params 0x47 = false), _, rfl, loadReg_effect _ _⟩
  | ldCB => exact .inl ⟨(rfl : faults s.params 0x48 = false), _, rfl, loadReg_effect _ _⟩
  | ldCC => exact .inl ⟨(rfl : faults s.params 0x49 = false), _, rfl, loadReg_effect _ _⟩
  | ldCD => exact .inl ⟨(rfl : faults s.params 0x4A = false), _, rfl, loadReg_effect _ _⟩
  | ldCE => exact .inl ⟨(rfl : faults s.params 0x4B = false), _, rfl, loadReg_effect _ _⟩
  | ldCH => exact .inl ⟨(rfl : faults s.params 0x4C = false), _, rfl, loadReg_effect _ _⟩
  | ldCL => exact .inl ⟨(rfl : faults s.params 0x4D = false), _, rfl, loadReg_effect _ _⟩
  | ldCAtHl => exact .inl ⟨(rfl : faults s.params 0x4E = false), _, rfl, loadFrom_effect _ _⟩
  | ldCA => exact .inl ⟨(rfl : faults s.params 0x4F = false), _, rfl, loadReg_effect _ _⟩
  | ldDB => exact .inl ⟨(rfl : faults s.params 0x50 = false), _, rfl, loadReg_effect _ _⟩
  | ldDC => exact .inl ⟨(rfl : faults s.params 0x51 = false), _, rfl, loadReg_effect _ _⟩
  | ldDD => exact .inl ⟨(rfl : faults s.params 0x52 = false), _, rfl, loadReg_effect _ _⟩
  | ldDE => exact .inl ⟨(rfl : faults s.params 0x53 = false), _, rfl, loadReg_effect _ _⟩
  | ldDH => exact .inl ⟨(rfl : faults s.params 0x54 = false), _, rfl, loadReg_effect _ _⟩
  | ldDL => exact .inl ⟨(rfl : faults s.params 0x55 = false), _, rfl, loadReg_effect _ _⟩
  | ldDAtHl => exact .inl ⟨(rfl : faults s.params 0x56 = false), _, rfl, loadFrom_effect _ _⟩
  | ldDA => exact .inl ⟨(rfl : faults s.params 0x57 = false), _, rfl, loadReg_effect _ _⟩
  | ldEB => exact .inl ⟨(rfl : faults s.params 0x58 = false), _, rfl, loadReg_effect _ _⟩
  | ldEC => exact .inl ⟨(rfl : faults s.params 0x59 = false), _, rfl, loadReg_effect _ _⟩
  | ldED => exact .inl ⟨(rfl : faults s.params 0x5A = false), _, rfl, loadReg_effect _ _⟩
  | ldEE => exact .inl ⟨(rfl : faults s.params 0x5B = false), _, rfl, loadReg_effect _ _⟩
  | ldEH => exact .inl ⟨(rfl : faults s.params 0x5C = false), _, rfl, loadReg_effect _ _⟩
  | ldEL => exact .inl ⟨(rfl : faults s.params 0x5D = false), _, rfl, loadReg_effect _ _⟩
  | ldEAtHl => exact .inl ⟨(rfl : faults s.params 0x5E = false), _, rfl, loadFrom_effect _ _⟩
  | ldEA => exact .inl ⟨(rfl : faults s.params 0x5F = false), _, rfl, loadReg_effect _ _⟩
  | ldHB => exact .inl ⟨(rfl : faults s.params 0x60 = false), _, rfl, loadReg_effect _ _⟩
  | ldHC => exact .inl ⟨(rfl : faults s.params 0x61 = false), _, rfl, loadReg_effect _ _⟩
  | ldHD => exact .inl ⟨(rfl : faults s.params 0x62 = false), _, rfl, loadReg_effect _ _⟩
  | ldHE => exact .inl ⟨(rfl : faults s.params 0x63 = false), _, rfl, loadReg_effect _ _⟩
  | ldHH => exact .inl ⟨(rfl : faults s.params 0x64 = false), _, rfl, loadReg_effect _ _⟩
  | ldHL => exact .inl ⟨(rfl : faults s.params 0x65 = false), _, rfl, loadReg_effect _ _⟩
  | ldHAtHl => exact .inl ⟨(rfl : faults s.params 0x66 = false), _, rfl, loadFrom_effect _ _⟩
  | ldHA => exact .inl ⟨(rfl : faults s.params 0x67 = false), _, rfl, loadReg_effect _ _⟩
  | ldLB => exact .inl ⟨(rfl : faults s.params 0x68 = false), _, rfl, loadReg_effect _ _⟩
  | ldLC => exact .inl ⟨(rfl : faults s.params 0x69 = false), _, rfl, loadReg_effect _ _⟩
  | ldLD => exact .inl ⟨(rfl : faults s.params 0x6A = false), _, rfl, loadReg_effect _ _⟩
  | ldLE => exact .inl ⟨(rfl : faults s.params 0x6B = false), _, rfl, loadReg_effect _ _⟩
  | ldLH => exact .inl ⟨(rfl : faults s.params 0x6C = false), _, rfl, loadReg_effect _ _⟩
  | ldLL => exact .inl ⟨(rfl : faults s.params 0x6D = false), _, rfl, loadReg_effect _ _⟩
  | ldLAtHl => exact .inl ⟨(rfl : faults s.params 0x6E = false), _, rfl, loadFrom_effect _ _⟩
  | ldLA => exact .inl ⟨(rfl : faults s.params 0x6F = false), _, rfl, loadReg_effect _ _⟩
  | ldAtHlB => exact .inl ⟨(rfl : faults s.params 0x70 = false), _, rfl, storeTo_effect _ _⟩
  | ldAtHlC => exact .inl ⟨(rfl : faults s.params 0x71 = false), _, rfl, storeTo_effect _ _⟩
  | ldAtHlD => exact .inl ⟨(rfl : faults s.params 0x72 = false), _, rfl, storeTo_effect _ _⟩
  | ldAtHlE => exact .inl ⟨(rfl : faults s.params 0x73 = false), _, rfl, storeTo_effect _ _⟩
  | ldAtHlH => exact .inl ⟨(rfl : faults s.params 0x74 = false), _, rfl, storeTo_effect _ _⟩
  | ldAtHlL => exact .inl ⟨(rfl : faults s.params 0x75 = false), _, rfl, storeTo_effect _ _⟩
  | halt => exact haltOrStop_cases _ s (rfl : faults s.params 0x76 = (s.params.haltStop == .fault))
  | ldAtHlA => exact .inl ⟨(rfl : faults s.params 0x77 = false), _, rfl, storeTo_effect _ _⟩
  | ldAB => exact .inl ⟨(rfl : faults s.params 0x78 = false), _, rfl, loadReg_effect _ _⟩
  | ldAC => exact .inl ⟨(rfl : faults s.params 0x79 = false), _, rfl, loadReg_effect _ _⟩
  | ldAD => exact .inl ⟨(rfl : faults s.params 0x7A = false), _, rfl, loadReg_effect _ _⟩
  | ldAE => exact .inl ⟨(rfl : faults s.params 0x7B = false), _, rfl, loadReg_effect _ _⟩
  | ldAH => exact .inl ⟨(rfl : faults s.params 0x7C = false), _, rfl, loadReg_effect _ _⟩
  | ldAL => exact .inl ⟨(rfl : faults s.params 0x7D = false), _, rfl, loadReg_effect _ _⟩
  | ldAAtHl => exact .inl ⟨(rfl : faults s.params 0x7E = false), _, rfl, loadFrom_effect _ _⟩
  | ldAA => exact .inl ⟨(rfl : faults s.params 0x7F = false), _, rfl, loadReg_effect _ _⟩
  | addAB => exact .inl ⟨(rfl : faults s.params 0x80 = false), _, rfl, accumulate_effect _ _⟩
  | addAC => exact .inl ⟨(rfl : faults s.params 0x81 = false), _, rfl, accumulate_effect _ _⟩
  | addAD => exact .inl ⟨(rfl : faults s.params 0x82 = false), _, rfl, accumulate_effect _ _⟩
  | addAE => exact .inl ⟨(rfl : faults s.params 0x83 = false), _, rfl, accumulate_effect _ _⟩
  | addAH => exact .inl ⟨(rfl : faults s.params 0x84 = false), _, rfl, accumulate_effect _ _⟩
  | addAL => exact .inl ⟨(rfl : faults s.params 0x85 = false), _, rfl, accumulate_effect _ _⟩
  | addAAtHl => exact .inl ⟨(rfl : faults s.params 0x86 = false), _, rfl, accumulate_effect _ _⟩
  | addAA => exact .inl ⟨(rfl : faults s.params 0x87 = false), _, rfl, accumulate_effect _ _⟩
  | adcAB => exact .inl ⟨(rfl : faults s.params 0x88 = false), _, rfl, accumulate_effect _ _⟩
  | adcAC => exact .inl ⟨(rfl : faults s.params 0x89 = false), _, rfl, accumulate_effect _ _⟩
  | adcAD => exact .inl ⟨(rfl : faults s.params 0x8A = false), _, rfl, accumulate_effect _ _⟩
  | adcAE => exact .inl ⟨(rfl : faults s.params 0x8B = false), _, rfl, accumulate_effect _ _⟩
  | adcAH => exact .inl ⟨(rfl : faults s.params 0x8C = false), _, rfl, accumulate_effect _ _⟩
  | adcAL => exact .inl ⟨(rfl : faults s.params 0x8D = false), _, rfl, accumulate_effect _ _⟩
  | adcAAtHl => exact .inl ⟨(rfl : faults s.params 0x8E = false), _, rfl, accumulate_effect _ _⟩
  | adcAA => exact .inl ⟨(rfl : faults s.params 0x8F = false), _, rfl, accumulate_effect _ _⟩
  | subB => exact .inl ⟨(rfl : faults s.params 0x90 = false), _, rfl, accumulate_effect _ _⟩
  | subC => exact .inl ⟨(rfl : faults s.params 0x91 = false), _, rfl, accumulate_effect _ _⟩
  | subD => exact .inl ⟨(rfl : faults s.params 0x92 = false), _, rfl, accumulate_effect _ _⟩
  | subE => exact .inl ⟨(rfl : faults s.params 0x93 = false), _, rfl, accumulate_effect _ _⟩
  | subH => exact .inl ⟨(rfl : faults s.params 0x94 = false), _, rfl, accumulate_effect _ _⟩
  | subL => exact .inl ⟨(rfl : faults s.params 0x95 = false), _, rfl, accumulate_effect _ _⟩
  | subAtHl => exact .inl ⟨(rfl : faults s.params 0x96 = false), _, rfl, accumulate_effect _ _⟩
  | subA => exact .inl ⟨(rfl : faults s.params 0x97 = false), _, rfl, accumulate_effect _ _⟩
  | sbcAB => exact .inl ⟨(rfl : faults s.params 0x98 = false), _, rfl, accumulate_effect _ _⟩
  | sbcAC => exact .inl ⟨(rfl : faults s.params 0x99 = false), _, rfl, accumulate_effect _ _⟩
  | sbcAD => exact .inl ⟨(rfl : faults s.params 0x9A = false), _, rfl, accumulate_effect _ _⟩
  | sbcAE => exact .inl ⟨(rfl : faults s.params 0x9B = false), _, rfl, accumulate_effect _ _⟩
  | sbcAH => exact .inl ⟨(rfl : faults s.params 0x9C = false), _, rfl, accumulate_effect _ _⟩
  | sbcAL => exact .inl ⟨(rfl : faults s.params 0x9D = false), _, rfl, accumulate_effect _ _⟩
  | sbcAAtHl => exact .inl ⟨(rfl : faults s.params 0x9E = false), _, rfl, accumulate_effect _ _⟩
  | sbcAA => exact .inl ⟨(rfl : faults s.params 0x9F = false), _, rfl, accumulate_effect _ _⟩
  | andB => exact .inl ⟨(rfl : faults s.params 0xA0 = false), _, rfl, accumulate_effect _ _⟩
  | andC => exact .inl ⟨(rfl : faults s.params 0xA1 = false), _, rfl, accumulate_effect _ _⟩
  | andD => exact .inl ⟨(rfl : faults s.params 0xA2 = false), _, rfl, accumulate_effect _ _⟩
  | andE => exact .inl ⟨(rfl : faults s.params 0xA3 = false), _, rfl, accumulate_effect _ _⟩
  | andH => exact .inl ⟨(rfl : faults s.params 0xA4 = false), _, rfl, accumulate_effect _ _⟩
  | andL => exact .inl ⟨(rfl : faults s.params 0xA5 = false), _, rfl, accumulate_effect _ _⟩
  | andAtHl => exact .inl ⟨(rfl : faults s.params 0xA6 = false), _, rfl, accumulate_effect _ _⟩
  | andA => exact .inl ⟨(rfl : faults s.params 0xA7 = false), _, rfl, accumulate_effect _ _⟩
  | xorB => exact .inl ⟨(rfl : faults s.params 0xA8 = false), _, rfl, accumulate_effect _ _⟩
  | xorC => exact .inl ⟨(rfl : faults s.params 0xA9 = false), _, rfl, accumulate_effect _ _⟩
  | xorD => exact .inl ⟨(rfl : faults s.params 0xAA = false), _, rfl, accumulate_effect _ _⟩
  | xorE => exact .inl ⟨(rfl : faults s.params 0xAB = false), _, rfl, accumulate_effect _ _⟩
  | xorH => exact .inl ⟨(rfl : faults s.params 0xAC = false), _, rfl, accumulate_effect _ _⟩
  | xorL => exact .inl ⟨(rfl : faults s.params 0xAD = false), _, rfl, accumulate_effect _ _⟩
  | xorAtHl => exact .inl ⟨(rfl : faults s.params 0xAE = false), _, rfl, accumulate_effect _ _⟩
  | xorA => exact .inl ⟨(rfl : faults s.params 0xAF = false), _, rfl, accumulate_effect _ _⟩
  | orB => exact .inl ⟨(rfl : faults s.params 0xB0 = false), _, rfl, accumulate_effect _ _⟩
  | orC => exact .inl ⟨(rfl : faults s.params 0xB1 = false), _, rfl, accumulate_effect _ _⟩
  | orD => exact .inl ⟨(rfl : faults s.params 0xB2 = false), _, rfl, accumulate_effect _ _⟩
  | orE => exact .inl ⟨(rfl : faults s.params 0xB3 = false), _, rfl, accumulate_effect _ _⟩
  | orH => exact .inl ⟨(rfl : faults s.params 0xB4 = false), _, rfl, accumulate_effect _ _⟩
  | orL => exact .inl ⟨(rfl : faults s.params 0xB5 = false), _, rfl, accumulate_effect _ _⟩
  | orAtHl => exact .inl ⟨(rfl : faults s.params 0xB6 = false), _, rfl, accumulate_effect _ _⟩
  | orA => exact .inl ⟨(rfl : faults s.params 0xB7 = false), _, rfl, accumulate_effect _ _⟩
  | cpB => exact .inl ⟨(rfl : faults s.params 0xB8 = false), _, rfl, accumulate_effect _ _⟩
  | cpC => exact .inl ⟨(rfl : faults s.params 0xB9 = false), _, rfl, accumulate_effect _ _⟩
  | cpD => exact .inl ⟨(rfl : faults s.params 0xBA = false), _, rfl, accumulate_effect _ _⟩
  | cpE => exact .inl ⟨(rfl : faults s.params 0xBB = false), _, rfl, accumulate_effect _ _⟩
  | cpH => exact .inl ⟨(rfl : faults s.params 0xBC = false), _, rfl, accumulate_effect _ _⟩
  | cpL => exact .inl ⟨(rfl : faults s.params 0xBD = false), _, rfl, accumulate_effect _ _⟩
  | cpAtHl => exact .inl ⟨(rfl : faults s.params 0xBE = false), _, rfl, accumulate_effect _ _⟩
  | cpA => exact .inl ⟨(rfl : faults s.params 0xBF = false), _, rfl, accumulate_effect _ _⟩
  | retNz => exact .inl ⟨(rfl : faults s.params 0xC0 = false), _, rfl, when_effect _ _ (returnFromCall_effect)⟩
  | popBc => exact .inl ⟨(rfl : faults s.params 0xC1 = false), _, rfl, popPair_effect _⟩
  | jpNzA16 _ => exact .inl ⟨(rfl : faults s.params 0xC2 = false), _, rfl, when_effect _ _ (fun s => State.jumpTo_effect s _)⟩
  | jpA16 _ => exact .inl ⟨(rfl : faults s.params 0xC3 = false), _, rfl, fun s => State.jumpTo_effect s _⟩
  | callNzA16 _ => exact .inl ⟨(rfl : faults s.params 0xC4 = false), _, rfl, when_effect _ _ (callTo_effect _ _)⟩
  | pushBc => exact .inl ⟨(rfl : faults s.params 0xC5 = false), _, rfl, pushPair_effect _⟩
  | addAN8 _ => exact .inl ⟨(rfl : faults s.params 0xC6 = false), _, rfl, accumulate_effect _ _⟩
  | rst00 => exact .inl ⟨(rfl : faults s.params 0xC7 = false), _, rfl, callTo_effect _ _⟩
  | retZ => exact .inl ⟨(rfl : faults s.params 0xC8 = false), _, rfl, when_effect _ _ (returnFromCall_effect)⟩
  | ret => exact .inl ⟨(rfl : faults s.params 0xC9 = false), _, rfl, returnFromCall_effect⟩
  | jpZA16 _ => exact .inl ⟨(rfl : faults s.params 0xCA = false), _, rfl, when_effect _ _ (fun s => State.jumpTo_effect s _)⟩
  | prefixCb => exact .inr ⟨(rfl : faults s.params 0xCB = true), rfl⟩
  | callZA16 _ => exact .inl ⟨(rfl : faults s.params 0xCC = false), _, rfl, when_effect _ _ (callTo_effect _ _)⟩
  | callA16 _ => exact .inl ⟨(rfl : faults s.params 0xCD = false), _, rfl, callTo_effect _ _⟩
  | adcAN8 _ => exact .inl ⟨(rfl : faults s.params 0xCE = false), _, rfl, accumulate_effect _ _⟩
  | rst08 => exact .inl ⟨(rfl : faults s.params 0xCF = false), _, rfl, callTo_effect _ _⟩
  | retNc => exact .inl ⟨(rfl : faults s.params 0xD0 = false), _, rfl, when_effect _ _ (returnFromCall_effect)⟩
  | popDe => exact .inl ⟨(rfl : faults s.params 0xD1 = false), _, rfl, popPair_effect _⟩
  | jpNcA16 _ => exact .inl ⟨(rfl : faults s.params 0xD2 = false), _, rfl, when_effect _ _ (fun s => State.jumpTo_effect s _)⟩
  | illegalD3 => exact .inr ⟨(rfl : faults s.params 0xD3 = true), rfl⟩
  | callNcA16 _ => exact .inl ⟨(rfl : faults s.params 0xD4 = false), _, rfl, when_effect _ _ (callTo_effect _ _)⟩
  | pushDe => exact .inl ⟨(rfl : faults s.params 0xD5 = false), _, rfl, pushPair_effect _⟩
  | subN8 _ => exact .inl ⟨(rfl : faults s.params 0xD6 = false), _, rfl, accumulate_effect _ _⟩
  | rst10 => exact .inl ⟨(rfl : faults s.params 0xD7 = false), _, rfl, callTo_effect _ _⟩
  | retC => exact .inl ⟨(rfl : faults s.params 0xD8 = false), _, rfl, when_effect _ _ (returnFromCall_effect)⟩
  | reti => exact .inl ⟨(rfl : faults s.params 0xD9 = false), _, rfl, State.returnFromInterrupt_effect⟩
  | jpCA16 _ => exact .inl ⟨(rfl : faults s.params 0xDA = false), _, rfl, when_effect _ _ (fun s => State.jumpTo_effect s _)⟩
  | illegalDB => exact .inr ⟨(rfl : faults s.params 0xDB = true), rfl⟩
  | callCA16 _ => exact .inl ⟨(rfl : faults s.params 0xDC = false), _, rfl, when_effect _ _ (callTo_effect _ _)⟩
  | illegalDD => exact .inr ⟨(rfl : faults s.params 0xDD = true), rfl⟩
  | sbcAN8 _ => exact .inl ⟨(rfl : faults s.params 0xDE = false), _, rfl, accumulate_effect _ _⟩
  | rst18 => exact .inl ⟨(rfl : faults s.params 0xDF = false), _, rfl, callTo_effect _ _⟩
  | ldhAtA8A _ => exact .inl ⟨(rfl : faults s.params 0xE0 = false), _, rfl, storeTo_effect _ _⟩
  | popHl => exact .inl ⟨(rfl : faults s.params 0xE1 = false), _, rfl, popPair_effect _⟩
  | ldAtCA => exact .inl ⟨(rfl : faults s.params 0xE2 = false), _, rfl, storeTo_effect _ _⟩
  | illegalE3 => exact .inr ⟨(rfl : faults s.params 0xE3 = true), rfl⟩
  | illegalE4 => exact .inr ⟨(rfl : faults s.params 0xE4 = true), rfl⟩
  | pushHl => exact .inl ⟨(rfl : faults s.params 0xE5 = false), _, rfl, pushPair_effect _⟩
  | andN8 _ => exact .inl ⟨(rfl : faults s.params 0xE6 = false), _, rfl, accumulate_effect _ _⟩
  | rst20 => exact .inl ⟨(rfl : faults s.params 0xE7 = false), _, rfl, callTo_effect _ _⟩
  | addSpE8 _ => exact .inl ⟨(rfl : faults s.params 0xE8 = false), _, rfl, addToSp_effect _⟩
  | jpHl => exact .inl ⟨(rfl : faults s.params 0xE9 = false), _, rfl, jumpToHl_effect⟩
  | ldAtA16A _ => exact .inl ⟨(rfl : faults s.params 0xEA = false), _, rfl, storeTo_effect _ _⟩
  | illegalEB => exact .inr ⟨(rfl : faults s.params 0xEB = true), rfl⟩
  | illegalEC => exact .inr ⟨(rfl : faults s.params 0xEC = true), rfl⟩
  | illegalED => exact .inr ⟨(rfl : faults s.params 0xED = true), rfl⟩
  | xorN8 _ => exact .inl ⟨(rfl : faults s.params 0xEE = false), _, rfl, accumulate_effect _ _⟩
  | rst28 => exact .inl ⟨(rfl : faults s.params 0xEF = false), _, rfl, callTo_effect _ _⟩
  | ldhAAtA8 _ => exact .inl ⟨(rfl : faults s.params 0xF0 = false), _, rfl, loadFrom_effect _ _⟩
  | popAf => exact .inl ⟨(rfl : faults s.params 0xF1 = false), _, rfl, popPair_effect _⟩
  | ldAAtC => exact .inl ⟨(rfl : faults s.params 0xF2 = false), _, rfl, loadFrom_effect _ _⟩
  | di => exact .inl ⟨(rfl : faults s.params 0xF3 = false), _, rfl, setIme_effect _⟩
  | illegalF4 => exact .inr ⟨(rfl : faults s.params 0xF4 = true), rfl⟩
  | pushAf => exact .inl ⟨(rfl : faults s.params 0xF5 = false), _, rfl, pushPair_effect _⟩
  | orN8 _ => exact .inl ⟨(rfl : faults s.params 0xF6 = false), _, rfl, accumulate_effect _ _⟩
  | rst30 => exact .inl ⟨(rfl : faults s.params 0xF7 = false), _, rfl, callTo_effect _ _⟩
  | ldHlSpE8 _ => exact .inl ⟨(rfl : faults s.params 0xF8 = false), _, rfl, loadHlFromSp_effect _⟩
  | ldSpHl => exact .inl ⟨(rfl : faults s.params 0xF9 = false), _, rfl, loadSpFromHl_effect⟩
  | ldAAtA16 _ => exact .inl ⟨(rfl : faults s.params 0xFA = false), _, rfl, loadFrom_effect _ _⟩
  | ei => exact .inl ⟨(rfl : faults s.params 0xFB = false), _, rfl, setIme_effect _⟩
  | illegalFC => exact .inr ⟨(rfl : faults s.params 0xFC = true), rfl⟩
  | illegalFD => exact .inr ⟨(rfl : faults s.params 0xFD = true), rfl⟩
  | cpN8 _ => exact .inl ⟨(rfl : faults s.params 0xFE = false), _, rfl, accumulate_effect _ _⟩
  | rst38 => exact .inl ⟨(rfl : faults s.params 0xFF = false), _, rfl, callTo_effect _ _⟩

/-- What exec answers, in terms of the state alone: a next state, that either completes the instruction
or holds the new fault record. -/
theorem exec_next (i : Instr) (s : State) :
    ∃ t, exec i s = .next t ∧
      ((∃ u, CpuEffect { s with pcWritten := false } u ∧ t = retire i u) ∨
        t = s.raiseFault .unimplementedOpcode i.opcode s.pc) := by
  rcases exec_cases i s with ⟨_, body, h, hb⟩ | ⟨_, h⟩
  · exact ⟨_, h, .inl ⟨_, hb _, rfl⟩⟩
  · exact ⟨_, h, .inr rfl⟩

end Sys2Proof.Machine
end

