-- ==== Sys2Proof/Laws/PerInstr.lean ====
section
/-! SUPPORT. Statements about every instruction as syntax, one lemma per constructor. The family
EncodedSize: the encoding of a well-formed instruction has as many bytes as the size table gives its
opcode (30_encoding.md R72, R79). -/

namespace Sys2Proof.Laws.EncodedSize

/-- A well-formed instruction's encoding has the length of the size table. -/
def Statement (i : Instr) : Prop :=
  i.wellFormed = true → opSize i.opcode = some (encode i).length

theorem nop : Statement .nop := fun _ => (rfl : opSize 0x00 = some 1)
theorem ldBcN16 (n : Word) : Statement (.ldBcN16 n) := fun _ => (rfl : opSize 0x01 = some 3)
theorem ldAtBcA : Statement .ldAtBcA := fun _ => (rfl : opSize 0x02 = some 1)
theorem incBc : Statement .incBc := fun _ => (rfl : opSize 0x03 = some 1)
theorem incB : Statement .incB := fun _ => (rfl : opSize 0x04 = some 1)
theorem decB : Statement .decB := fun _ => (rfl : opSize 0x05 = some 1)
theorem ldBN8 (n : Byte) : Statement (.ldBN8 n) := fun _ => (rfl : opSize 0x06 = some 2)
theorem rlca : Statement .rlca := fun _ => (rfl : opSize 0x07 = some 1)
theorem ldAtA16Sp (a : Word) : Statement (.ldAtA16Sp a) := fun _ => (rfl : opSize 0x08 = some 3)
theorem addHlBc : Statement .addHlBc := fun _ => (rfl : opSize 0x09 = some 1)
theorem ldAAtBc : Statement .ldAAtBc := fun _ => (rfl : opSize 0x0A = some 1)
theorem decBc : Statement .decBc := fun _ => (rfl : opSize 0x0B = some 1)
theorem incC : Statement .incC := fun _ => (rfl : opSize 0x0C = some 1)
theorem decC : Statement .decC := fun _ => (rfl : opSize 0x0D = some 1)
theorem ldCN8 (n : Byte) : Statement (.ldCN8 n) := fun _ => (rfl : opSize 0x0E = some 2)
theorem rrca : Statement .rrca := fun _ => (rfl : opSize 0x0F = some 1)
theorem stop (n : Byte) : Statement (.stop n) := fun _ => (rfl : opSize 0x10 = some 2)
theorem ldDeN16 (n : Word) : Statement (.ldDeN16 n) := fun _ => (rfl : opSize 0x11 = some 3)
theorem ldAtDeA : Statement .ldAtDeA := fun _ => (rfl : opSize 0x12 = some 1)
theorem incDe : Statement .incDe := fun _ => (rfl : opSize 0x13 = some 1)
theorem incD : Statement .incD := fun _ => (rfl : opSize 0x14 = some 1)
theorem decD : Statement .decD := fun _ => (rfl : opSize 0x15 = some 1)
theorem ldDN8 (n : Byte) : Statement (.ldDN8 n) := fun _ => (rfl : opSize 0x16 = some 2)
theorem rla : Statement .rla := fun _ => (rfl : opSize 0x17 = some 1)
theorem jrE8 (e : Byte) : Statement (.jrE8 e) := fun _ => (rfl : opSize 0x18 = some 2)
theorem addHlDe : Statement .addHlDe := fun _ => (rfl : opSize 0x19 = some 1)
theorem ldAAtDe : Statement .ldAAtDe := fun _ => (rfl : opSize 0x1A = some 1)
theorem decDe : Statement .decDe := fun _ => (rfl : opSize 0x1B = some 1)
theorem incE : Statement .incE := fun _ => (rfl : opSize 0x1C = some 1)
theorem decE : Statement .decE := fun _ => (rfl : opSize 0x1D = some 1)
theorem ldEN8 (n : Byte) : Statement (.ldEN8 n) := fun _ => (rfl : opSize 0x1E = some 2)
theorem rra : Statement .rra := fun _ => (rfl : opSize 0x1F = some 1)
theorem jrNzE8 (e : Byte) : Statement (.jrNzE8 e) := fun _ => (rfl : opSize 0x20 = some 2)
theorem ldHlN16 (n : Word) : Statement (.ldHlN16 n) := fun _ => (rfl : opSize 0x21 = some 3)
theorem ldAtHlIncA : Statement .ldAtHlIncA := fun _ => (rfl : opSize 0x22 = some 1)
theorem incHl : Statement .incHl := fun _ => (rfl : opSize 0x23 = some 1)
theorem incH : Statement .incH := fun _ => (rfl : opSize 0x24 = some 1)
theorem decH : Statement .decH := fun _ => (rfl : opSize 0x25 = some 1)
theorem ldHN8 (n : Byte) : Statement (.ldHN8 n) := fun _ => (rfl : opSize 0x26 = some 2)
theorem daa : Statement .daa := fun _ => (rfl : opSize 0x27 = some 1)
theorem jrZE8 (e : Byte) : Statement (.jrZE8 e) := fun _ => (rfl : opSize 0x28 = some 2)
theorem addHlHl : Statement .addHlHl := fun _ => (rfl : opSize 0x29 = some 1)
theorem ldAAtHlInc : Statement .ldAAtHlInc := fun _ => (rfl : opSize 0x2A = some 1)
theorem decHl : Statement .decHl := fun _ => (rfl : opSize 0x2B = some 1)
theorem incL : Statement .incL := fun _ => (rfl : opSize 0x2C = some 1)
theorem decL : Statement .decL := fun _ => (rfl : opSize 0x2D = some 1)
theorem ldLN8 (n : Byte) : Statement (.ldLN8 n) := fun _ => (rfl : opSize 0x2E = some 2)
theorem cpl : Statement .cpl := fun _ => (rfl : opSize 0x2F = some 1)
theorem jrNcE8 (e : Byte) : Statement (.jrNcE8 e) := fun _ => (rfl : opSize 0x30 = some 2)
theorem ldSpN16 (n : Word) : Statement (.ldSpN16 n) := fun _ => (rfl : opSize 0x31 = some 3)
theorem ldAtHlDecA : Statement .ldAtHlDecA := fun _ => (rfl : opSize 0x32 = some 1)
theorem incSp : Statement .incSp := fun _ => (rfl : opSize 0x33 = some 1)
theorem incAtHl : Statement .incAtHl := fun _ => (rfl : opSize 0x34 = some 1)
theorem decAtHl : Statement .decAtHl := fun _ => (rfl : opSize 0x35 = some 1)
theorem ldAtHlN8 (n : Byte) : Statement (.ldAtHlN8 n) := fun _ => (rfl : opSize 0x36 = some 2)
theorem scf : Statement .scf := fun _ => (rfl : opSize 0x37 = some 1)
theorem jrCE8 (e : Byte) : Statement (.jrCE8 e) := fun _ => (rfl : opSize 0x38 = some 2)
theorem addHlSp : Statement .addHlSp := fun _ => (rfl : opSize 0x39 = some 1)
theorem ldAAtHlDec : Statement .ldAAtHlDec := fun _ => (rfl : opSize 0x3A = some 1)
theorem decSp : Statement .decSp := fun _ => (rfl : opSize 0x3B = some 1)
theorem incA : Statement .incA := fun _ => (rfl : opSize 0x3C = some 1)
theorem decA : Statement .decA := fun _ => (rfl : opSize 0x3D = some 1)
theorem ldAN8 (n : Byte) : Statement (.ldAN8 n) := fun _ => (rfl : opSize 0x3E = some 2)
theorem ccf : Statement .ccf := fun _ => (rfl : opSize 0x3F = some 1)
theorem ldBB : Statement .ldBB := fun _ => (rfl : opSize 0x40 = some 1)
theorem ldBC : Statement .ldBC := fun _ => (rfl : opSize 0x41 = some 1)
theorem ldBD : Statement .ldBD := fun _ => (rfl : opSize 0x42 = some 1)
theorem ldBE : Statement .ldBE := fun _ => (rfl : opSize 0x43 = some 1)
theorem ldBH : Statement .ldBH := fun _ => (rfl : opSize 0x44 = some 1)
theorem ldBL : Statement .ldBL := fun _ => (rfl : opSize 0x45 = some 1)
theorem ldBAtHl : Statement .ldBAtHl := fun _ => (rfl : opSize 0x46 = some 1)
theorem ldBA : Statement .ldBA := fun _ => (rfl : opSize 0x47 = some 1)
theorem ldCB : Statement .ldCB := fun _ => (rfl : opSize 0x48 = some 1)
theorem ldCC : Statement .ldCC := fun _ => (rfl : opSize 0x49 = some 1)
theorem ldCD : Statement .ldCD := fun _ => (rfl : opSize 0x4A = some 1)
theorem ldCE : Statement .ldCE := fun _ => (rfl : opSize 0x4B = some 1)
theorem ldCH : Statement .ldCH := fun _ => (rfl : opSize 0x4C = some 1)
theorem ldCL : Statement .ldCL := fun _ => (rfl : opSize 0x4D = some 1)
theorem ldCAtHl : Statement .ldCAtHl := fun _ => (rfl : opSize 0x4E = some 1)
theorem ldCA : Statement .ldCA := fun _ => (rfl : opSize 0x4F = some 1)
theorem ldDB : Statement .ldDB := fun _ => (rfl : opSize 0x50 = some 1)
theorem ldDC : Statement .ldDC := fun _ => (rfl : opSize 0x51 = some 1)
theorem ldDD : Statement .ldDD := fun _ => (rfl : opSize 0x52 = some 1)
theorem ldDE : Statement .ldDE := fun _ => (rfl : opSize 0x53 = some 1)
theorem ldDH : Statement .ldDH := fun _ => (rfl : opSize 0x54 = some 1)
theorem ldDL : Statement .ldDL := fun _ => (rfl : opSize 0x55 = some 1)
theorem ldDAtHl : Statement .ldDAtHl := fun _ => (rfl : opSize 0x56 = some 1)
theorem ldDA : Statement .ldDA := fun _ => (rfl : opSize 0x57 = some 1)
theorem ldEB : Statement .ldEB := fun _ => (rfl : opSize 0x58 = some 1)
theorem ldEC : Statement .ldEC := fun _ => (rfl : opSize 0x59 = some 1)
theorem ldED : Statement .ldED := fun _ => (rfl : opSize 0x5A = some 1)
theorem ldEE : Statement .ldEE := fun _ => (rfl : opSize 0x5B = some 1)
theorem ldEH : Statement .ldEH := fun _ => (rfl : opSize 0x5C = some 1)
theorem ldEL : Statement .ldEL := fun _ => (rfl : opSize 0x5D = some 1)
theorem ldEAtHl : Statement .ldEAtHl := fun _ => (rfl : opSize 0x5E = some 1)
theorem ldEA : Statement .ldEA := fun _ => (rfl : opSize 0x5F = some 1)
theorem ldHB : Statement .ldHB := fun _ => (rfl : opSize 0x60 = some 1)
theorem ldHC : Statement .ldHC := fun _ => (rfl : opSize 0x61 = some 1)
theorem ldHD : Statement .ldHD := fun _ => (rfl : opSize 0x62 = some 1)
theorem ldHE : Statement .ldHE := fun _ => (rfl : opSize 0x63 = some 1)
theorem ldHH : Statement .ldHH := fun _ => (rfl : opSize 0x64 = some 1)
theorem ldHL : Statement .ldHL := fun _ => (rfl : opSize 0x65 = some 1)
theorem ldHAtHl : Statement .ldHAtHl := fun _ => (rfl : opSize 0x66 = some 1)
theorem ldHA : Statement .ldHA := fun _ => (rfl : opSize 0x67 = some 1)
theorem ldLB : Statement .ldLB := fun _ => (rfl : opSize 0x68 = some 1)
theorem ldLC : Statement .ldLC := fun _ => (rfl : opSize 0x69 = some 1)
theorem ldLD : Statement .ldLD := fun _ => (rfl : opSize 0x6A = some 1)
theorem ldLE : Statement .ldLE := fun _ => (rfl : opSize 0x6B = some 1)
theorem ldLH : Statement .ldLH := fun _ => (rfl : opSize 0x6C = some 1)
theorem ldLL : Statement .ldLL := fun _ => (rfl : opSize 0x6D = some 1)
theorem ldLAtHl : Statement .ldLAtHl := fun _ => (rfl : opSize 0x6E = some 1)
theorem ldLA : Statement .ldLA := fun _ => (rfl : opSize 0x6F = some 1)
theorem ldAtHlB : Statement .ldAtHlB := fun _ => (rfl : opSize 0x70 = some 1)
theorem ldAtHlC : Statement .ldAtHlC := fun _ => (rfl : opSize 0x71 = some 1)
theorem ldAtHlD : Statement .ldAtHlD := fun _ => (rfl : opSize 0x72 = some 1)
theorem ldAtHlE : Statement .ldAtHlE := fun _ => (rfl : opSize 0x73 = some 1)
theorem ldAtHlH : Statement .ldAtHlH := fun _ => (rfl : opSize 0x74 = some 1)
theorem ldAtHlL : Statement .ldAtHlL := fun _ => (rfl : opSize 0x75 = some 1)
theorem halt : Statement .halt := fun _ => (rfl : opSize 0x76 = some 1)
theorem ldAtHlA : Statement .ldAtHlA := fun _ => (rfl : opSize 0x77 = some 1)
theorem ldAB : Statement .ldAB := fun _ => (rfl : opSize 0x78 = some 1)
theorem ldAC : Statement .ldAC := fun _ => (rfl : opSize 0x79 = some 1)
theorem ldAD : Statement .ldAD := fun _ => (rfl : opSize 0x7A = some 1)
theorem ldAE : Statement .ldAE := fun _ => (rfl : opSize 0x7B = some 1)
theorem ldAH : Statement .ldAH := fun _ => (rfl : opSize 0x7C = some 1)
theorem ldAL : Statement .ldAL := fun _ => (rfl : opSize 0x7D = some 1)
theorem ldAAtHl : Statement .ldAAtHl := fun _ => (rfl : opSize 0x7E = some 1)
theorem ldAA : Statement .ldAA := fun _ => (rfl : opSize 0x7F = some 1)
theorem addAB : Statement .addAB := fun _ => (rfl : opSize 0x80 = some 1)
theorem addAC : Statement .addAC := fun _ => (rfl : opSize 0x81 = some 1)
theorem addAD : Statement .addAD := fun _ => (rfl : opSize 0x82 = some 1)
theorem addAE : Statement .addAE := fun _ => (rfl : opSize 0x83 = some 1)
theorem addAH : Statement .addAH := fun _ => (rfl : opSize 0x84 = some 1)
theorem addAL : Statement .addAL := fun _ => (rfl : opSize 0x85 = some 1)
theorem addAAtHl : Statement .addAAtHl := fun _ => (rfl : opSize 0x86 = some 1)
theorem addAA : Statement .addAA := fun _ => (rfl : opSize 0x87 = some 1)
theorem adcAB : Statement .adcAB := fun _ => (rfl : opSize 0x88 = some 1)
theorem adcAC : Statement .adcAC := fun _ => (rfl : opSize 0x89 = some 1)
theorem adcAD : Statement .adcAD := fun _ => (rfl : opSize 0x8A = some 1)
theorem adcAE : Statement .adcAE := fun _ => (rfl : opSize 0x8B = some 1)
theorem adcAH : Statement .adcAH := fun _ => (rfl : opSize 0x8C = some 1)
theorem adcAL : Statement .adcAL := fun _ => (rfl : opSize 0x8D = some 1)
theorem adcAAtHl : Statement .adcAAtHl := fun _ => (rfl : opSize 0x8E = some 1)
theorem adcAA : Statement .adcAA := fun _ => (rfl : opSize 0x8F = some 1)
theorem subB : Statement .subB := fun _ => (rfl : opSize 0x90 = some 1)
theorem subC : Statement .subC := fun _ => (rfl : opSize 0x91 = some 1)
theorem subD : Statement .subD := fun _ => (rfl : opSize 0x92 = some 1)
theorem subE : Statement .subE := fun _ => (rfl : opSize 0x93 = some 1)
theorem subH : Statement .subH := fun _ => (rfl : opSize 0x94 = some 1)
theorem subL : Statement .subL := fun _ => (rfl : opSize 0x95 = some 1)
theorem subAtHl : Statement .subAtHl := fun _ => (rfl : opSize 0x96 = some 1)
theorem subA : Statement .subA := fun _ => (rfl : opSize 0x97 = some 1)
theorem sbcAB : Statement .sbcAB := fun _ => (rfl : opSize 0x98 = some 1)
theorem sbcAC : Statement .sbcAC := fun _ => (rfl : opSize 0x99 = some 1)
theorem sbcAD : Statement .sbcAD := fun _ => (rfl : opSize 0x9A = some 1)
theorem sbcAE : Statement .sbcAE := fun _ => (rfl : opSize 0x9B = some 1)
theorem sbcAH : Statement .sbcAH := fun _ => (rfl : opSize 0x9C = some 1)
theorem sbcAL : Statement .sbcAL := fun _ => (rfl : opSize 0x9D = some 1)
theorem sbcAAtHl : Statement .sbcAAtHl := fun _ => (rfl : opSize 0x9E = some 1)
theorem sbcAA : Statement .sbcAA := fun _ => (rfl : opSize 0x9F = some 1)
theorem andB : Statement .andB := fun _ => (rfl : opSize 0xA0 = some 1)
theorem andC : Statement .andC := fun _ => (rfl : opSize 0xA1 = some 1)
theorem andD : Statement .andD := fun _ => (rfl : opSize 0xA2 = some 1)
theorem andE : Statement .andE := fun _ => (rfl : opSize 0xA3 = some 1)
theorem andH : Statement .andH := fun _ => (rfl : opSize 0xA4 = some 1)
theorem andL : Statement .andL := fun _ => (rfl : opSize 0xA5 = some 1)
theorem andAtHl : Statement .andAtHl := fun _ => (rfl : opSize 0xA6 = some 1)
theorem andA : Statement .andA := fun _ => (rfl : opSize 0xA7 = some 1)
theorem xorB : Statement .xorB := fun _ => (rfl : opSize 0xA8 = some 1)
theorem xorC : Statement .xorC := fun _ => (rfl : opSize 0xA9 = some 1)
theorem xorD : Statement .xorD := fun _ => (rfl : opSize 0xAA = some 1)
theorem xorE : Statement .xorE := fun _ => (rfl : opSize 0xAB = some 1)
theorem xorH : Statement .xorH := fun _ => (rfl : opSize 0xAC = some 1)
theorem xorL : Statement .xorL := fun _ => (rfl : opSize 0xAD = some 1)
theorem xorAtHl : Statement .xorAtHl := fun _ => (rfl : opSize 0xAE = some 1)
theorem xorA : Statement .xorA := fun _ => (rfl : opSize 0xAF = some 1)
theorem orB : Statement .orB := fun _ => (rfl : opSize 0xB0 = some 1)
theorem orC : Statement .orC := fun _ => (rfl : opSize 0xB1 = some 1)
theorem orD : Statement .orD := fun _ => (rfl : opSize 0xB2 = some 1)
theorem orE : Statement .orE := fun _ => (rfl : opSize 0xB3 = some 1)
theorem orH : Statement .orH := fun _ => (rfl : opSize 0xB4 = some 1)
theorem orL : Statement .orL := fun _ => (rfl : opSize 0xB5 = some 1)
theorem orAtHl : Statement .orAtHl := fun _ => (rfl : opSize 0xB6 = some 1)
theorem orA : Statement .orA := fun _ => (rfl : opSize 0xB7 = some 1)
theorem cpB : Statement .cpB := fun _ => (rfl : opSize 0xB8 = some 1)
theorem cpC : Statement .cpC := fun _ => (rfl : opSize 0xB9 = some 1)
theorem cpD : Statement .cpD := fun _ => (rfl : opSize 0xBA = some 1)
theorem cpE : Statement .cpE := fun _ => (rfl : opSize 0xBB = some 1)
theorem cpH : Statement .cpH := fun _ => (rfl : opSize 0xBC = some 1)
theorem cpL : Statement .cpL := fun _ => (rfl : opSize 0xBD = some 1)
theorem cpAtHl : Statement .cpAtHl := fun _ => (rfl : opSize 0xBE = some 1)
theorem cpA : Statement .cpA := fun _ => (rfl : opSize 0xBF = some 1)
theorem retNz : Statement .retNz := fun _ => (rfl : opSize 0xC0 = some 1)
theorem popBc : Statement .popBc := fun _ => (rfl : opSize 0xC1 = some 1)
theorem jpNzA16 (a : Word) : Statement (.jpNzA16 a) := fun _ => (rfl : opSize 0xC2 = some 3)
theorem jpA16 (a : Word) : Statement (.jpA16 a) := fun _ => (rfl : opSize 0xC3 = some 3)
theorem callNzA16 (a : Word) : Statement (.callNzA16 a) := fun _ => (rfl : opSize 0xC4 = some 3)
theorem pushBc : Statement .pushBc := fun _ => (rfl : opSize 0xC5 = some 1)
theorem addAN8 (n : Byte) : Statement (.addAN8 n) := fun _ => (rfl : opSize 0xC6 = some 2)
theorem rst00 : Statement .rst00 := fun _ => (rfl : opSize 0xC7 = some 1)
theorem retZ : Statement .retZ := fun _ => (rfl : opSize 0xC8 = some 1)
theorem ret : Statement .ret := fun _ => (rfl : opSize 0xC9 = some 1)
theorem jpZA16 (a : Word) : Statement (.jpZA16 a) := fun _ => (rfl : opSize 0xCA = some 3)
theorem prefixCb : Statement .prefixCb := nofun
theorem callZA16 (a : Word) : Statement (.callZA16 a) := fun _ => (rfl : opSize 0xCC = some 3)
theorem callA16 (a : Word) : Statement (.callA16 a) := fun _ => (rfl : opSize 0xCD = some 3)
theorem adcAN8 (n : Byte) : Statement (.adcAN8 n) := fun _ => (rfl : opSize 0xCE = some 2)
theorem rst08 : Statement .rst08 := fun _ => (rfl : opSize 0xCF = some 1)
theorem retNc : Statement .retNc := fun _ => (rfl : opSize 0xD0 = some 1)
theorem popDe : Statement .popDe := fun _ => (rfl : opSize 0xD1 = some 1)
theorem jpNcA16 (a : Word) : Statement (.jpNcA16 a) := fun _ => (rfl : opSize 0xD2 = some 3)
theorem illegalD3 : Statement .illegalD3 := nofun
theorem callNcA16 (a : Word) : Statement (.callNcA16 a) := fun _ => (rfl : opSize 0xD4 = some 3)
theorem pushDe : Statement .pushDe := fun _ => (rfl : opSize 0xD5 = some 1)
theorem subN8 (n : Byte) : Statement (.subN8 n) := fun _ => (rfl : opSize 0xD6 = some 2)
theorem rst10 : Statement .rst10 := fun _ => (rfl : opSize 0xD7 = some 1)
theorem retC : Statement .retC := fun _ => (rfl : opSize 0xD8 = some 1)
theorem reti : Statement .reti := fun _ => (rfl : opSize 0xD9 = some 1)
theorem jpCA16 (a : Word) : Statement (.jpCA16 a) := fun _ => (rfl : opSize 0xDA = some 3)
theorem illegalDB : Statement .illegalDB := nofun
theorem callCA16 (a : Word) : Statement (.callCA16 a) := fun _ => (rfl : opSize 0xDC = some 3)
theorem illegalDD : Statement .illegalDD := nofun
theorem sbcAN8 (n : Byte) : Statement (.sbcAN8 n) := fun _ => (rfl : opSize 0xDE = some 2)
theorem rst18 : Statement .rst18 := fun _ => (rfl : opSize 0xDF = some 1)
theorem ldhAtA8A (o : Byte) : Statement (.ldhAtA8A o) := fun _ => (rfl : opSize 0xE0 = some 2)
theorem popHl : Statement .popHl := fun _ => (rfl : opSize 0xE1 = some 1)
theorem ldAtCA : Statement .ldAtCA := fun _ => (rfl : opSize 0xE2 = some 1)
theorem illegalE3 : Statement .illegalE3 := nofun
theorem illegalE4 : Statement .illegalE4 := nofun
theorem pushHl : Statement .pushHl := fun _ => (rfl : opSize 0xE5 = some 1)
theorem andN8 (n : Byte) : Statement (.andN8 n) := fun _ => (rfl : opSize 0xE6 = some 2)
theorem rst20 : Statement .rst20 := fun _ => (rfl : opSize 0xE7 = some 1)
theorem addSpE8 (e : Byte) : Statement (.addSpE8 e) := fun _ => (rfl : opSize 0xE8 = some 2)
theorem jpHl : Statement .jpHl := fun _ => (rfl : opSize 0xE9 = some 1)
theorem ldAtA16A (a : Word) : Statement (.ldAtA16A a) := fun _ => (rfl : opSize 0xEA = some 3)
theorem illegalEB : Statement .illegalEB := nofun
theorem illegalEC : Statement .illegalEC := nofun
theorem illegalED : Statement .illegalED := nofun
theorem xorN8 (n : Byte) : Statement (.xorN8 n) := fun _ => (rfl : opSize 0xEE = some 2)
theorem rst28 : Statement .rst28 := fun _ => (rfl : opSize 0xEF = some 1)
theorem ldhAAtA8 (o : Byte) : Statement (.ldhAAtA8 o) := fun _ => (rfl : opSize 0xF0 = some 2)
theorem popAf : Statement .popAf := fun _ => (rfl : opSize 0xF1 = some 1)
theorem ldAAtC : Statement .ldAAtC := fun _ => (rfl : opSize 0xF2 = some 1)
theorem di : Statement .di := fun _ => (rfl : opSize 0xF3 = some 1)
theorem illegalF4 : Statement .illegalF4 := nofun
theorem pushAf : Statement .pushAf := fun _ => (rfl : opSize 0xF5 = some 1)
theorem orN8 (n : Byte) : Statement (.orN8 n) := fun _ => (rfl : opSize 0xF6 = some 2)
theorem rst30 : Statement .rst30 := fun _ => (rfl : opSize 0xF7 = some 1)
theorem ldHlSpE8 (e : Byte) : Statement (.ldHlSpE8 e) := fun _ => (rfl : opSize 0xF8 = some 2)
theorem ldSpHl : Statement .ldSpHl := fun _ => (rfl : opSize 0xF9 = some 1)
theorem ldAAtA16 (a : Word) : Statement (.ldAAtA16 a) := fun _ => (rfl : opSize 0xFA = some 3)
theorem ei : Statement .ei := fun _ => (rfl : opSize 0xFB = some 1)
theorem illegalFC : Statement .illegalFC := nofun
theorem illegalFD : Statement .illegalFD := nofun
theorem cpN8 (n : Byte) : Statement (.cpN8 n) := fun _ => (rfl : opSize 0xFE = some 2)
theorem rst38 : Statement .rst38 := fun _ => (rfl : opSize 0xFF = some 1)

end Sys2Proof.Laws.EncodedSize
end

