-- ==== Sys2Proof/Laws/Step.lean ====
section
/-! SUPPORT. What the parts of a step can do, said once each: the fetch, the render, the PPU step, the
collaborators' requests, the interrupt check, and the step itself. -/

namespace Sys2Proof.Machine

/-! Fetch. -/

/-- A fetch changes the device history and nothing else. -/
theorem fetch_eq (s : State) : (fetch s).2 = { s with history := (fetch s).2.history } := by
  unfold fetch
  simp only
  split
  · exact s.memRead_eq _
  · rw [State.memRead_eq (s.memRead s.pc).2, s.memRead_eq s.pc]
  · simp only [State.memRead16]
    rw [State.memRead_eq ((s.memRead s.pc).2.memRead (s.pc + 1)).2, State.memRead_eq (s.memRead s.pc).2,
      s.memRead_eq s.pc]

theorem fetch_effect (s : State) : CpuEffect s (fetch s).2 := by
  unfold fetch
  simp only
  split
  · exact s.memRead_effect _
  · exact (s.memRead_effect _).trans (State.memRead_effect _ _)
  · exact (s.memRead_effect _).trans ((State.memRead_effect _ _).trans (State.memRead_effect _ _))

/-! The render. -/

theorem State.backgroundPass_eq (s : State) (y : Nat) (lcdc : Byte) :
    s.backgroundPass y lcdc = { s with fb := (s.backgroundPass y lcdc).fb, bgIndex := (s.backgroundPass y lcdc).bgIndex } :=
  rfl

theorem State.spritePass_eq (s : State) (y : Nat) (lcdc : Byte) :
    s.spritePass y lcdc = { s with fb := (s.spritePass y lcdc).fb } := rfl

/-- A render changes the framebuffer and bg_index and nothing else. -/
theorem State.renderScanline_eq (s : State) :
    s.renderScanline = { s with fb := s.renderScanline.fb, bgIndex := s.renderScanline.bgIndex } := by
  unfold State.renderScanline
  simp only
  split
  · rfl
  · split <;> split <;> rfl

/-! The PPU step. -/

/-- The mode machine changes the PPU's state and memory and nothing else. -/
theorem State.modeStep_eq (s : State) :
    s.modeStep =
      { s with
        mode := s.modeStep.mode
        ly := s.modeStep.ly
        acc := s.modeStep.acc
        fb := s.modeStep.fb
        bgIndex := s.modeStep.bgIndex
        mem := s.modeStep.mem } := by
  unfold State.modeStep
  split
  · split <;> rfl
  · split
    · rw [State.renderScanline_eq]
    · rfl
  · unfold State.hblankStep
    split
    · split <;> rfl
    · rfl
  · unfold State.vblankStep
    split
    · split <;> rfl
    · split
      · split <;> rfl
      · rfl

/-- The mode machine requests VBlank exactly where it enters VBLANK from HBLANK. -/
theorem State.modeStep_mem (s : State) :
    s.modeStep.mem = s.mem ∨
      (s.mode = .hblank ∧ s.modeStep.mode = .vblank ∧
        s.modeStep.mem = s.mem.write ifAddr.toNat (s.peek ifAddr ||| 0x01)) := by
  unfold State.modeStep
  split
  · split <;> exact .inl rfl
  · split
    · rw [State.renderScanline_eq]; exact .inl rfl
    · exact .inl rfl
  · next h =>
    unfold State.hblankStep
    split
    · split
      · exact .inl rfl
      · exact .inr ⟨h, rfl, rfl⟩
    · exact .inl rfl
  · unfold State.vblankStep
    split
    · split <;> exact .inl rfl
    · split
      · split <;> exact .inl rfl
      · exact .inl rfl

/-- The PPU step changes the PPU's state and memory and nothing else. -/
theorem State.ppuStep_eq (s : State) (c : Nat) :
    s.ppuStep c =
      { s with
        mode := (s.ppuStep c).mode
        ly := (s.ppuStep c).ly
        acc := (s.ppuStep c).acc
        fb := (s.ppuStep c).fb
        bgIndex := (s.ppuStep c).bgIndex
        mem := (s.ppuStep c).mem } := by
  unfold State.ppuStep State.writeStatLy State.poke
  rw [State.modeStep_eq]

/-- A PPU step leaves every byte but IF, STAT and LY. -/
theorem State.peek_ppuStep_other {y : Word} (h1 : y ≠ ifAddr) (h2 : y ≠ statAddr) (h3 : y ≠ lyAddr) (s : State)
    (c : Nat) : (s.ppuStep c).peek y = s.peek y := by
  unfold State.ppuStep State.writeStatLy
  rw [State.peek_poke_other h3, State.peek_poke_other h2]
  unfold State.peek
  rcases State.modeStep_mem { s with acc := s.acc + c } with h | ⟨_, _, h⟩ <;> rw [h]
  exact State.peek_poke_other h1 s _

theorem State.ppuStep_wf {s : State} (hs : s.mem.wf = true) (c : Nat) : (s.ppuStep c).mem.wf = true := by
  unfold State.ppuStep State.writeStatLy
  refine State.poke_wf (State.poke_wf ?_ _ _) _ _
  rcases State.modeStep_mem { s with acc := s.acc + c } with h | ⟨_, _, h⟩ <;> rw [h]
  · exact hs
  · exact State.poke_wf hs _ _

/-! The collaborators' requests. -/

/-- The requests change memory and the draw count and nothing else. -/
theorem State.externalRequests_eq (s : State) :
    s.externalRequests = { s with mem := s.externalRequests.mem, draws := s.draws + 1 } := rfl

theorem State.externalRequests_wf {s : State} (hs : s.mem.wf = true) : s.externalRequests.mem.wf = true :=
  State.poke_wf hs _ _

theorem State.peek_externalRequests_other {y : Word} (h : y ≠ ifAddr) (s : State) :
    s.externalRequests.peek y = s.peek y :=
  State.peek_poke_other h s _

/-! The interrupt check. -/

/-- The check does nothing, raises UndefinedInterruptSource, or takes one interrupt. -/
theorem State.handleInterrupts_cases (s : State) :
    s.handleInterrupts = s ∨
      (s.ime = true ∧ s.peek ifAddr &&& s.peek ieAddr ≠ 0 ∧ s.peek ifAddr &&& s.peek ieAddr &&& 0x1F = 0 ∧
        s.handleInterrupts = s.raiseFault .undefinedInterruptSource (s.peek ifAddr &&& s.peek ieAddr) s.pc) ∨
      (s.ime = true ∧ ∃ n, n < 5 ∧ s.handleInterrupts = s.takeInterrupt n) := by
  unfold State.handleInterrupts
  simp only
  split
  · exact .inl rfl
  · next h1 =>
    simp only [Bool.or_eq_true, Bool.not_eq_true', beq_iff_eq, not_or, Bool.not_eq_false] at h1
    split
    · next h2 => exact .inr (.inl ⟨h1.1, h1.2, by simpa using h2, rfl⟩)
    · refine .inr (.inr ⟨h1.1, _, ?_, rfl⟩)
      unfold lowestSource
      split <;> (try split) <;> (try split) <;> (try split) <;> omega

/-- Taking an interrupt changes IME, prev_IME, SP, PC, the cycle count, memory and the history. -/
theorem State.takeInterrupt_eq (s : State) (n : Nat) :
    s.takeInterrupt n =
      { s with
        ime := false
        prevIme := s.ime
        sp := s.sp - 2
        pc := vector n
        cycles := s.cycles + s.params.dispatchCycles
        mem := (s.takeInterrupt n).mem
        history := (s.takeInterrupt n).history } := by
  simp [State.takeInterrupt, State.push16, State.poke]

theorem State.takeInterrupt_wf {s : State} (hs : s.mem.wf = true) (n : Nat) : (s.takeInterrupt n).mem.wf = true :=
  State.poke_wf (State.push16_wf (s := { s with prevIme := s.ime, ime := false }) hs _) _ _

/-! The step. -/

/-- What a step that goes on has done. -/
theorem step_next {s t : State} (h : step s = .next t) :
    s.fault = none ∧ ∃ u, exec (fetch s).1 (fetch s).2 = .next u ∧ t = u.finishIteration (fetch s).1 := by
  unfold step at h
  split at h
  · cases h
  · next hf =>
    obtain ⟨u, hu, -⟩ := exec_next (fetch s).1 (fetch s).2
    rw [hu] at h
    exact ⟨hf, u, hu, by cases h; rfl⟩

end Sys2Proof.Machine
end

