-- ==== Sys2Proof/Tests/Slice0.lean ====
section
/-! SUPPORT. Tests: each expected result is worked out from the spec (the field table of 30_encoding.md
R78, the vectors of 95_test_vectors.md, the examples of the instruction rules), never from the model. At the
end, for each statement with hypotheses, a state and operands that meet them. -/

namespace Sys2Proof.Tests

open Sys2Proof.Machine

/-! Well-formedness: an ill-formed term for each check. -/

theorem test_prefix_is_ill_formed : Instr.wellFormed .prefixCb = false := by decide

theorem test_illegal_is_ill_formed : Instr.wellFormed .illegalDD = false := by decide

theorem test_ordinary_is_well_formed : Instr.wellFormed (.ldAN8 0xCB) = true := by decide

/-! Decoding: every constructor, by an opcode put together from the fields x, y, z that the second table
of R78 gives it, with immediates 0x34 0x12 after it. -/

/-- op = x:y:z (R73). -/
def opOf (x y z : Nat) : Byte := BitVec.ofNat 8 (x * 64 + y * 8 + z)

/-- The instruction the decoder reads from opcode x:y:z followed by 0x34 0x12, if any. -/
def reads (x y z : Nat) : Option Instr :=
  match decode [opOf x y z, 0x34, 0x12] with
  | .ok (i, _) => some i
  | .error _ => none

/-- The selectors of R74 but (HL). -/
def sel : List (Nat × Reg8) := [(0, .b), (1, .c), (2, .d), (3, .e), (4, .h), (5, .l), (7, .a)]

/-- The selectors of R74 as second operands. -/
def selSrc : List (Nat × Src8) :=
  [(0, .reg .b), (1, .reg .c), (2, .reg .d), (3, .reg .e), (4, .reg .h), (5, .reg .l), (6, .atHl), (7, .reg .a)]

/-- The operations of R121. -/
def selAlu : List (Nat × AluOp) :=
  [(0, .add), (1, .adc), (2, .sub), (3, .sbc), (4, .and), (5, .xor), (6, .or), (7, .cp)]

/-- The SP set, the AF set and the conditions of R75 and R76. -/
def selPair : List (Nat × Reg16) := [(0, .bc), (1, .de), (2, .hl), (3, .sp)]
def selStk : List (Nat × Reg16Stk) := [(0, .bc), (1, .de), (2, .hl), (3, .af)]
def selCond : List (Nat × Cond) := [(0, .nz), (1, .z), (2, .nc), (3, .c)]

theorem test_decode_ld_r_r :
    ∀ y ∈ sel, ∀ z ∈ sel, reads 1 y.1 z.1 = some (Instr.ldReg y.2 z.2) := by decide

theorem test_decode_ld_r_hl : ∀ y ∈ sel, reads 1 y.1 6 = some (Instr.ldFromHl y.2) := by decide

theorem test_decode_ld_hl_r : ∀ z ∈ sel, reads 1 6 z.1 = some (Instr.ldToHl z.2) := by decide

theorem test_decode_ld_r_n8 : ∀ y ∈ sel, reads 0 y.1 6 = some (Instr.ldImm8 y.2 0x34) := by decide

theorem test_decode_alu_r : ∀ y ∈ selAlu, ∀ z ∈ selSrc, reads 2 y.1 z.1 = some (Instr.alu y.2 z.2) := by decide

theorem test_decode_alu_n8 : ∀ y ∈ selAlu, reads 3 y.1 6 = some (Instr.alu y.2 (.imm 0x34)) := by decide

theorem test_decode_inc_dec_r :
    ∀ y ∈ sel, reads 0 y.1 4 = some (Instr.incReg y.2) ∧ reads 0 y.1 5 = some (Instr.decReg y.2) := by decide

theorem test_decode_pairs :
    ∀ p ∈ selPair, reads 0 (2 * p.1) 1 = some (Instr.ldImm16 p.2 0x1234) ∧
      reads 0 (2 * p.1 + 1) 1 = some (Instr.addHl p.2) ∧ reads 0 (2 * p.1) 3 = some (Instr.incPair p.2) ∧
      reads 0 (2 * p.1 + 1) 3 = some (Instr.decPair p.2) := by decide

theorem test_decode_push_pop :
    ∀ p ∈ selStk, reads 3 (2 * p.1) 5 = some (Instr.push p.2) ∧ reads 3 (2 * p.1) 1 = some (Instr.pop p.2) := by
  decide

theorem test_decode_conditions :
    ∀ c ∈ selCond, reads 0 (c.1 + 4) 0 = some (Instr.jrIf c.2 0x34) ∧ reads 3 c.1 0 = some (Instr.retIf c.2) ∧
      reads 3 c.1 2 = some (Instr.jpIf c.2 0x1234) ∧ reads 3 c.1 4 = some (Instr.callIf c.2 0x1234) := by decide

theorem test_decode_rst : ∀ y : Fin 8, reads 3 y 7 = some (Instr.rst y) := by decide

theorem test_decode_x0 :
    reads 0 0 0 = some .nop ∧ reads 0 1 0 = some (.ldAtA16Sp 0x1234) ∧ reads 0 2 0 = some (.stop 0x34) ∧
      reads 0 3 0 = some (.jrE8 0x34) ∧ reads 0 6 4 = some .incAtHl ∧ reads 0 6 5 = some .decAtHl ∧
      reads 0 6 6 = some (.ldAtHlN8 0x34) := by decide

theorem test_decode_x0_z2 :
    (List.range 8).map (reads 0 · 2) =
      [.ldAtBcA, .ldAAtBc, .ldAtDeA, .ldAAtDe, .ldAtHlIncA, .ldAAtHlInc, .ldAtHlDecA, .ldAAtHlDec].map some := by
  decide

theorem test_decode_x0_z7 :
    (List.range 8).map (reads 0 · 7) =
      [.rlca, .rrca, .rla, .rra, .daa, .cpl, .scf, .ccf].map some := by decide

theorem test_decode_halt : reads 1 6 6 = some .halt := by decide

theorem test_decode_x3 :
    reads 3 4 0 = some (.ldhAtA8A 0x34) ∧ reads 3 5 0 = some (.addSpE8 0x34) ∧ reads 3 6 0 = some (.ldhAAtA8 0x34) ∧
      reads 3 7 0 = some (.ldHlSpE8 0x34) ∧ reads 3 1 1 = some .ret ∧ reads 3 3 1 = some .reti ∧
      reads 3 5 1 = some .jpHl ∧ reads 3 7 1 = some .ldSpHl ∧ reads 3 4 2 = some .ldAtCA ∧
      reads 3 5 2 = some (.ldAtA16A 0x1234) ∧ reads 3 6 2 = some .ldAAtC ∧ reads 3 7 2 = some (.ldAAtA16 0x1234) ∧
      reads 3 0 3 = some (.jpA16 0x1234) ∧ reads 3 1 3 = some .prefixCb ∧ reads 3 6 3 = some .di ∧
      reads 3 7 3 = some .ei ∧ reads 3 1 5 = some (.callA16 0x1234) := by decide

theorem test_decode_illegal :
    [0xD3, 0xDB, 0xDD, 0xE3, 0xE4, 0xEB, 0xEC, 0xED, 0xF4, 0xFC, 0xFD].map (fun op : Nat => decodeTableWord 8 op) =
      [.illegalD3, .illegalDB, .illegalDD, .illegalE3, .illegalE4, .illegalEB, .illegalEC, .illegalED, .illegalF4,
        .illegalFC, .illegalFD].map some := by decide

theorem test_decode_refuses_no_bytes : (match decode [] with | .error e => e == .noBytes | _ => false) = true := by
  decide

theorem test_decode_refuses_truncated :
    (match decode [0xC3, 0x34] with | .error e => e == .truncated 0xC3 | _ => false) = true := by decide

theorem test_table_word_is_little_endian : decodeTableWord 24 0x1234C3 = some (.jpA16 0x1234) := by decide

theorem test_table_word_bits_above_are_zero : decodeTableWord 8 0x1234C3 = some (.jpA16 0) := by decide

/-! One instruction on a small state: PC = 0x0100, mode HBLANK, as in 95_test_vectors.md. -/

/-- The convention of 95_test_vectors.md, with a palette whose quads are 0, 1, 2 and 3. -/
def base : State :=
  { State.reset with
    pc := 0x0100
    mode := .hblank
    params :=
      { State.reset.params with
        palette := ⟨⟨0, 0, 0, 9⟩, ⟨1, 1, 1, 9⟩, ⟨2, 2, 2, 9⟩, ⟨3, 3, 3, 9⟩⟩ } }

/-- The state an outcome goes on with. -/
def after : StepResult → Option State
  | .next s => some s
  | _ => none

/-- A field of the state after instruction i. -/
def runs (i : Instr) (s : State) (view : State → α) : Option α := (after (exec i s)).map view

-- L1 to L17
theorem test_ld_r_r :
    runs .ldAB { base with b := 0x12 } (fun t => (t.a, t.pc, t.cycles)) = some (0x12, 0x0101, 4) := by decide

theorem test_ld_r_hl_gated :
    runs .ldBAtHl { base with h := 0xFE, mode := .oamSearch, mem := [(0xFE00, 0x12)] } (·.b) = some 0xFF := by decide

theorem test_ld_hl_r_gated :
    runs .ldAtHlB { base with h := 0x80, b := 0x12, mode := .pixelTransfer, mem := [(0x8000, 0x34)] } (·.mem) =
      some [(0x8000, 0x34)] := by decide

theorem test_ld_hl_l :
    runs .ldAtHlL { base with h := 0xC1, l := 0x23 } (·.mem) = some [(0xC123, 0x23)] := by decide

theorem test_ld_hl_n8 :
    runs (.ldAtHlN8 0x7E) { base with h := 0xD0 } (fun t => (t.mem, t.pc, t.cycles)) =
      some ([(0xD000, 0x7E)], 0x0102, 8) := by decide

theorem test_ld_hl_inc_a_wraps :
    runs .ldAtHlIncA { base with h := 0xFF, l := 0xFF, a := 0x5A } (fun t => (t.mem, t.hl)) =
      some ([(0xFFFF, 0x5A)], 0x0000) := by decide

theorem test_ld_a_hl_dec_wraps :
    runs .ldAAtHlDec { base with mem := [(0, 0x77)] } (fun t => (t.a, t.hl)) = some (0x77, 0xFFFF) := by decide

theorem test_ld_h_hl : runs .ldHAtHl { base with h := 0xC0, mem := [(0xC000, 0x01)] } (·.hl) = some 0x0100 := by decide

theorem test_ld_a16_sp_wraps :
    runs (.ldAtA16Sp 0xFFFF) { base with sp := 0xABCD } (fun t => (t.mem, t.cycles)) =
      some ([(0x0000, 0xAB), (0xFFFF, 0xCD)], 20) := by decide

theorem test_ldh_reads_device :
    runs (.ldhAAtA8 0x00) base (fun t => (t.history, t.cycles)) =
      some ([.read 0xFF00 (Config.deviceRead 0xFF00 [])], 12) := rfl

theorem test_ldh_writes_device :
    runs (.ldhAtA8A 0x01) { base with a := 0x41 } (fun t => (t.history, t.mem)) =
      some ([.write 0xFF01 0x41], []) := by decide

theorem test_ld_hl_sp_e8 :
    runs (.ldHlSpE8 0xFF) { base with sp := 0x0001 } (fun t => (t.hl, t.f, t.cycles)) = some (0x0000, 0x30, 12) := by
  decide

theorem test_push_af :
    runs .pushAf { base with sp := 0xD000, a := 0x12, f := 0xB0 } (fun t => (t.mem, t.sp)) =
      some ([(0xCFFE, 0xB0), (0xCFFF, 0x12)], 0xCFFE) := by decide

theorem test_pop_af :
    runs .popAf { base with sp := 0xD000, mem := [(0xD000, 0xFF), (0xD001, 0x12)] } (fun t => (t.a, t.f, t.sp)) =
      some (0x12, 0xF0, 0xD002) := by decide

theorem test_push_gated :
    runs .pushBc { base with sp := 0x8100, mode := .oamSearch, b := 0x12 } (fun t => (t.mem, t.sp)) =
      some ([], 0x80FE) := by decide

theorem test_pop_gated :
    runs .popBc { base with sp := 0x80FE, mode := .oamSearch } (fun t => (t.bc, t.sp)) = some (0xFFFF, 0x8100) := by
  decide

-- A1 to A23
theorem test_add : runs .addAB { base with a := 0x3A, b := 0xC6 } (fun t => (t.a, t.f)) = some (0x00, 0xB0) := by decide

theorem test_adc_half_by_carry :
    runs (.adcAN8 0x00) { base with a := 0x0F, f := 0x10 } (fun t => (t.a, t.f)) = some (0x10, 0x20) := by decide

theorem test_adc_wraps :
    runs (.adcAN8 0x00) { base with a := 0xFF, f := 0x10 } (fun t => (t.a, t.f)) = some (0x00, 0xB0) := by decide

theorem test_sub_borrows : runs (.subN8 0x01) base (fun t => (t.a, t.f)) = some (0xFF, 0x70) := by decide

theorem test_sbc_borrows :
    runs (.sbcAN8 0xFF) { base with f := 0x10 } (fun t => (t.a, t.f)) = some (0x00, 0xF0) := by decide

theorem test_sbc_half :
    runs (.sbcAN8 0x0F) { base with a := 0x10, f := 0x10 } (fun t => (t.a, t.f)) = some (0x00, 0xE0) := by decide

theorem test_and : runs .andL { base with a := 0x5A, l := 0x3F } (fun t => (t.a, t.f)) = some (0x1A, 0x20) := by decide

theorem test_xor : runs .xorA { base with a := 0x77, f := 0x70 } (fun t => (t.a, t.f)) = some (0x00, 0x80) := by decide

theorem test_or : runs (.orN8 0x03) { base with a := 0x5A, f := 0xF0 } (fun t => (t.a, t.f)) = some (0x5B, 0x00) := by
  decide

theorem test_cp : runs .cpB { base with a := 0x3C, b := 0x2F } (fun t => (t.a, t.f)) = some (0x3C, 0x60) := by decide

theorem test_add_gated :
    runs .addAAtHl { base with a := 0x01, h := 0x90, mode := .oamSearch } (fun t => (t.a, t.f)) = some (0x00, 0xB0) := by
  decide

theorem test_inc_keeps_carry :
    runs .incA { base with a := 0xFF, f := 0x10 } (fun t => (t.a, t.f)) = some (0x00, 0xB0) := by decide

theorem test_dec : runs .decA { base with a := 0x10 } (fun t => (t.a, t.f)) = some (0x0F, 0x60) := by decide

theorem test_inc_at_hl_gated :
    runs .incAtHl { base with h := 0x80, mode := .oamSearch } (fun t => (t.mem, t.f)) = some ([], 0xA0) := by decide

theorem test_dec_at_hl :
    runs .decAtHl { base with h := 0xC0, f := 0x10 } (fun t => (t.mem, t.f, t.cycles)) =
      some ([(0xC000, 0xFF)], 0x70, 12) := by decide

theorem test_rlca : runs .rlca { base with a := 0x85 } (fun t => (t.a, t.f)) = some (0x0B, 0x10) := by decide

theorem test_rla : runs .rla { base with a := 0x95, f := 0x10 } (fun t => (t.a, t.f)) = some (0x2B, 0x10) := by decide

theorem test_rrca : runs .rrca { base with a := 0x3B } (fun t => (t.a, t.f)) = some (0x9D, 0x10) := by decide

theorem test_rra : runs .rra { base with a := 0x81 } (fun t => (t.a, t.f)) = some (0x40, 0x10) := by decide

theorem test_daa_add : runs .daa { base with a := 0x9A } (fun t => (t.a, t.f)) = some (0x00, 0x90) := by decide

theorem test_daa_sub : runs .daa { base with a := 0xFF, f := 0x70 } (fun t => (t.a, t.f)) = some (0x99, 0x50) := by
  decide

theorem test_cpl : runs .cpl { base with a := 0x35 } (fun t => (t.a, t.f)) = some (0xCA, 0x60) := by decide

theorem test_scf : runs .scf { base with f := 0xE0 } (·.f) = some 0x90 := by decide

theorem test_ccf : runs .ccf { base with f := 0x70 } (·.f) = some 0x00 := by decide

-- W1 to W6
theorem test_add_hl_hl : runs .addHlHl { base with h := 0x80 } (fun t => (t.hl, t.f)) = some (0x0000, 0x90) := by decide

theorem test_add_hl_bc :
    runs .addHlBc { base with h := 0x8A, l := 0x23, b := 0x06, c := 0x05 } (fun t => (t.hl, t.f)) =
      some (0x9028, 0x20) := by decide

theorem test_inc_bc :
    runs .incBc { base with b := 0x12, c := 0xFF, f := 0xF0 } (fun t => (t.bc, t.f)) = some (0x1300, 0xF0) := by decide

theorem test_dec_sp : runs .decSp base (fun t => (t.sp, t.f)) = some (0xFFFF, 0x00) := by decide

theorem test_add_sp : runs (.addSpE8 0x80) { base with sp := 0x0080 } (fun t => (t.sp, t.f, t.cycles)) =
    some (0x0000, 0x10, 16) := by decide

-- C1 to C14
theorem test_jr_self : runs (.jrE8 0xFE) base (fun t => (t.pc, t.cycles)) = some (0x0100, 12) := by decide

theorem test_jr_wraps : runs (.jrE8 0x7F) { base with pc := 0xFFF0 } (·.pc) = some 0x0071 := by decide

theorem test_jr_nz : runs (.jrNzE8 0xFB) { base with pc := 0x0105 } (fun t => (t.pc, t.cycles)) = some (0x0102, 8) := by
  decide

theorem test_jp_nc_falls_through : runs (.jpNcA16 0x2000) { base with f := 0x10 } (·.pc) = some 0x0103 := by decide

theorem test_jp_nc_tests_carry_not_zero : runs (.jpNcA16 0x2000) { base with f := 0x80 } (·.pc) = some 0x2000 := by decide

theorem test_jp_hl : runs .jpHl { base with h := 0x80 } (fun t => (t.pc, t.cycles)) = some (0x8000, 4) := by decide

theorem test_call :
    runs (.callA16 0x2000) { base with pc := 0x0150, sp := 0xFFFE } (fun t => (t.mem, t.sp, t.pc)) =
      some ([(0xFFFC, 0x53), (0xFFFD, 0x01)], 0xFFFC, 0x2000) := by decide

theorem test_call_nz_not_taken :
    runs (.callNzA16 0x2000) { base with f := 0x80, sp := 0xD000 } (fun t => (t.mem, t.sp, t.pc)) =
      some ([], 0xD000, 0x0103) := by decide

theorem test_ret_c :
    runs .retC { base with f := 0x10, sp := 0xD000, mem := [(0xD000, 0x34), (0xD001, 0x12)] }
      (fun t => (t.pc, t.sp, t.cycles)) = some (0x1234, 0xD002, 8) := by decide

theorem test_reti :
    runs .reti { base with prevIme := true, sp := 0xFFFC, mem := [(0xFFFC, 0x34), (0xFFFD, 0x12)] }
      (fun t => (t.pc, t.sp, t.ime, t.prevIme)) = some (0x1234, 0xFFFE, true, false) := by decide

theorem test_rst :
    runs .rst38 { base with pc := 0x0200, sp := 0xFFFE } (fun t => (t.mem, t.pc, t.cycles)) =
      some ([(0xFFFC, 0x01), (0xFFFD, 0x02)], 0x0038, 16) := by decide

-- Y1 to Y10
theorem test_nop : runs .nop base (fun t => (t.pc, t.cycles)) = some (0x0101, 4) := by decide

theorem test_halt_faults :
    runs .halt base (fun t => (t.fault, t.pc, t.cycles)) = some (some ⟨.unimplementedOpcode, 0x76, 0x0100⟩, 0x0100, 0) := by
  decide

theorem test_stop_does_nothing :
    runs (.stop 0x00) { base with params := { base.params with haltStop := .nop } } (fun t => (t.fault, t.pc, t.cycles)) =
      some (none, 0x0102, 4) := by decide

theorem test_prefix_faults :
    runs .prefixCb base (·.fault) = some (some ⟨.unimplementedOpcode, 0xCB, 0x0100⟩) := by decide

theorem test_illegal_faults :
    runs .illegalDD base (·.fault) = some (some ⟨.unimplementedOpcode, 0xDD, 0x0100⟩) := by decide

-- I1 to I7
/-- The start of vector I1. -/
def pending1 : State := { base with ime := true, pc := 0x1234, sp := 0xD000, mem := [(0xFF0F, 0x1F), (0xFFFF, 0x06)] }

theorem test_dispatch_priority :
    (fun t : State => (t.mem, t.pc, t.sp, t.ime, t.prevIme)) pending1.handleInterrupts =
      ([(0xCFFE, 0x34), (0xCFFF, 0x12), (0xFF0F, 0x1D), (0xFFFF, 0x06)], 0x0048, 0xCFFE, false, true) := by decide

theorem test_undefined_source :
    { pending1 with mem := [(0xFF0F, 0xE0), (0xFFFF, 0xE0)] }.handleInterrupts.fault =
      some ⟨.undefinedInterruptSource, 0xE0, 0x1234⟩ := by decide

theorem test_dispatch_push_on_if :
    (fun t : State => (t.mem, t.pc))
      { pending1 with pc := 0x0123, sp := 0xFF11, mem := [(0xFF0F, 0x01), (0xFFFF, 0x01)] }.handleInterrupts =
      ([(0xFF0F, 0x22), (0xFF10, 0x01), (0xFFFF, 0x01)], 0x0040) := by decide

-- P1 to P8 and S7
/-- What the PPU vectors look at: mode, LY, acc, memory. -/
def ppuView (s : State) : Mode × Nat × Nat × Memory := (s.mode, s.ly, s.acc, s.mem)

theorem test_ppu_overshoot :
    ppuView ({ base with mode := .oamSearch, acc := 76 }.ppuStep 8) = (.pixelTransfer, 0, 0, [(0xFF41, 0x07)]) := by decide

theorem test_ppu_one_transition : ppuView (State.reset.ppuStep 1000) = (.pixelTransfer, 0, 0, [(0xFF41, 0x07)]) := by
  decide

theorem test_ppu_vblank :
    ppuView ({ base with ly := 143 }.ppuStep 204) =
      (.vblank, 144, 0, [(0xFF0F, 0x01), (0xFF41, 0x01), (0xFF44, 0x90)]) := by decide

theorem test_ppu_frame_end :
    ppuView ({ base with mode := .vblank, ly := 144, acc := 4556 }.ppuStep 4) = (.oamSearch, 0, 0, [(0xFF41, 0x06)]) := by
  decide

theorem test_ppu_stat_preserves :
    ({ State.reset with mem := [(0xFF41, 0xF8)] }.ppuStep 4).mem = [(0xFF41, 0xFE)] := by decide

theorem test_ppu_per_line :
    ppuView ({ base with mode := .vblank, ly := 153, params := { base.params with vblank := .perLine } }.ppuStep 456) =
      (.oamSearch, 0, 0, [(0xFF41, 0x06)]) := by decide

-- V1 to V13: the first columns of row 0, as the red bytes of the palette of base.
/-- Columns from to from + n of row y after a render. -/
def columns (s : State) (y first n : Nat) : List Nat :=
  (((s.renderScanline.fbRow y).drop first).take n).map (fun p => p.red.toNat + 16 * p.alpha.toNat)

theorem test_render_background :
    { base with mem := [(0x8010, 0xF0), (0x8011, 0xCC), (0x9800, 0x01), (0xFF40, 0x11)] }.renderScanline.bgIndex.take 10 =
      [3, 3, 1, 1, 2, 2, 0, 0, 0, 0] := by decide +kernel

theorem test_render_signed_tiles :
    ({ base with mem := [(0x8801, 0xFF), (0x9000, 0xFF), (0x9801, 0x80), (0xFF40, 0x01)] }.renderScanline.bgIndex.drop 6).take 12 =
      [1, 1, 2, 2, 2, 2, 2, 2, 2, 2, 1, 1] := by decide +kernel

theorem test_render_sprite_flipped :
    columns { base with mem := [(0x8010, 0x80), (0x801E, 0x01), (0x801F, 0x01), (0xFE00, 16), (0xFE01, 8), (0xFE02, 1),
      (0xFE03, 0x40), (0xFF40, 0x02)] } 0 0 9 = [0, 0, 0, 0, 0, 0, 0, 147, 0] := by decide +kernel

theorem test_render_sprite_clipped :
    columns { base with mem := [(0x8010, 0xFF), (0xFE00, 16), (0xFE01, 4), (0xFE02, 1), (0xFF40, 0x02)] } 0 0 6 =
      [145, 145, 145, 145, 0, 0] := by decide +kernel

/-- The twelve sprites of vectors S10 and V13, all on line 0 with tile 1. -/
def twelve : Memory :=
  (0x8010, 0xFF) :: (0x8011, 0xFF) ::
    (([50, 40, 40, 30, 90, 80, 70, 60, 20, 100, 10, 45] : List Nat).zipIdx.flatMap
      (fun xi => [(0xFE00 + 4 * xi.2, 16), (0xFE01 + 4 * xi.2, BitVec.ofNat 8 xi.1), (0xFE02 + 4 * xi.2, 1)])) ++
    [(0xFF40, 0x02)]

theorem test_render_keeps_ten :
    { base with mem := twelve }.spritesOn 0 8 = [10, 8, 3, 1, 2, 11, 0, 7, 6, 5] := by decide +kernel

theorem test_render_priority :
    ({ base with mem := [(0x8010, 0xF0), (0x8011, 0xCC), (0x8020, 0xFF), (0x8031, 0xFF), (0x9800, 0x01), (0xFE00, 16),
      (0xFE01, 12), (0xFE02, 2), (0xFE04, 16), (0xFE05, 8), (0xFE06, 3), (0xFE07, 0x80), (0xFF40, 0x93)] } |>
      (columns · 0 0 14)).map (· % 16) = [3, 3, 1, 1, 1, 1, 2, 2, 1, 1, 1, 1, 0, 0] := by decide +kernel

-- Whole iterations: S4, S5, Y2, P6
theorem test_first_step_ld_a_n8 :
    (after (step (State.reset.withFetchWord 16 0x423E))).map (fun t => (t.a, t.pc, t.cycles, t.acc)) =
      some (0x42, 2, 8, 8) := rfl

theorem test_first_step_jp : (after (step (State.reset.withFetchWord 24 0x1234C3))).map (·.pc) = some 0x1234 := rfl

theorem test_first_step_illegal :
    (after (step (State.reset.withFetchWord 8 0xDD))).map (fun t => (t.fault, t.acc)) =
      some (some ⟨.unimplementedOpcode, 0xDD, 0⟩, 0) := rfl

theorem test_faulted_takes_no_step (s : State) (r : FaultRecord) :
    step { s with fault := some r } = .fault (.machineFaulted r) := rfl

/-! Witnesses: a state and operands that meet the hypotheses of each statement that has some, at the edges
of their ranges. -/

theorem witness_decoded_bytes : decode [0xC3, 0x34, 0x12, 0xFF] = .ok (.jpA16 0x1234, [0xFF]) := rfl

/-- The stack straddles the end of the address space. -/
def wrapping : State := { base with sp := 0x0001, a := 0x12, f := 0xB0 }

theorem witness_push_then_pop :
    wrapping.memoryCanonical ∧ wrapping.flagsCanonical ∧ Spec.plain wrapping (wrapping.sp - 1) ∧
      Spec.plain wrapping (wrapping.sp - 2) :=
  ⟨rfl, rfl, ⟨rfl, by decide⟩, ⟨rfl, by decide⟩⟩

/-- STOP stands at PC, and the policy is NOP. -/
def stopNop : State := { base with mem := [(0x0100, 0x10)], params := { base.params with haltStop := .nop } }

theorem witness_halt_and_stop :
    stopNop.params.haltStop = .nop ∧ base.params.haltStop = .fault ∧ (stopNop.memRead stopNop.pc).1 = 0x10 :=
  ⟨rfl, rfl, rfl⟩

/-- The gate is closed, and two bytes are listed in it. -/
def closed : State := { base with mode := .pixelTransfer, mem := [(0x8000, 0x12), (0xFE9F, 0x34)] }

theorem witness_read_returns_last_write :
    closed.memoryCanonical ∧ Spec.plain closed 0x7FFF ∧ Spec.plain closed 0xA000 ∧ Spec.plain closed 0xFEA0 :=
  ⟨rfl, ⟨rfl, by decide⟩, ⟨rfl, by decide⟩, ⟨rfl, by decide⟩⟩

theorem witness_frames_that_store :
    (∃ t, exec .ldAtHlA base = .next t) ∧ Reg8.a ∉ Spec.dests .ldAtHlA ∧ Spec.writesSp .ldAtHlA = false ∧
      Spec.writesFlags .ldAtHlA = false ∧ Spec.transfers .ldAtHlA = false ∧
      (0x0001 : Word) ∉ Spec.stores .ldAtHlA base ∧ Instr.ldAtHlA ∉ [.ei, .di, .reti] :=
  ⟨⟨_, rfl⟩, by decide, rfl, rfl, rfl, by decide, by decide⟩

theorem witness_frames_of_a_call :
    (∃ t, exec (.callNzA16 0x2000) wrapping = .next t) ∧ Reg8.a ∉ Spec.dests (.callNzA16 0x2000) ∧
      (0x0001 : Word) ∉ Spec.stores (.callNzA16 0x2000) wrapping :=
  ⟨⟨_, rfl⟩, by decide, by decide⟩

theorem witness_closed_gate :
    closed.memoryCanonical ∧ { closed with mem := [(0x8000, 0x99)] }.memoryCanonical ∧
      closed.mode.closesGate = true ∧ Spec.SameOutsideGate closed { closed with mem := [(0x8000, 0x99)] } ∧
      gated 0x8000 = true ∧ gated 0xFE9F = true := by
  refine ⟨rfl, rfl, rfl, ⟨rfl, fun x hx => ?_⟩, rfl, rfl⟩
  have h1 : x.toNat ≠ 0x8000 := by rintro h; simp [gated, h] at hx
  have h2 : x.toNat ≠ 0xFE9F := by rintro h; simp [gated, h] at hx
  simp [State.peek, closed, Memory.read, h1, h2]

/-- A two-byte instruction at the end of the address space, in plain memory. -/
def ldAtTop : State := { base with pc := 0xFFFF, mem := [(0x0000, 0x42), (0xFFFF, 0x3E)] }

theorem witness_step_runs :
    ldAtTop.fault = none ∧
      decode [ldAtTop.peek ldAtTop.pc, ldAtTop.peek (ldAtTop.pc + 1), ldAtTop.peek (ldAtTop.pc + 2)] =
        .ok (.ldAN8 0x42, [0x00]) ∧
      (∀ k < (encode (.ldAN8 0x42)).length, Spec.plain ldAtTop (ldAtTop.pc + BitVec.ofNat 16 k)) ∧
      ∃ t, exec (.ldAN8 0x42) ldAtTop = .next t := by
  refine ⟨rfl, rfl, fun k hk => ?_, _, rfl⟩
  have h : k = 0 ∨ k = 1 := by change k < 2 at hk; omega
  rcases h with rfl | rfl <;> exact ⟨rfl, by decide⟩

/-- JP stands on the last byte before video RAM, and its two immediate bytes are closed. -/
def jpAtGate : State := { closed with pc := 0x7FFF, mem := [(0x7FFF, 0xC3), (0x8000, 0x12)] }

theorem witness_step_reads_closed_immediates :
    jpAtGate.fault = none ∧ ¬ ((Instr.jpA16 0xFFFF).opcode = 0x10 ∧ jpAtGate.params.haltStop = .fault) ∧
      (Spec.fetchBytes (encode (.jpA16 0xFFFF)).length jpAtGate.pc jpAtGate).1 = encode (.jpA16 0xFFFF) ∧
      ∃ t, exec (.jpA16 0xFFFF) (Spec.fetchBytes 3 jpAtGate.pc jpAtGate).2 = .next t :=
  ⟨rfl, by decide, rfl, _, rfl⟩

/-- LD A,n8 stands on the last byte before the joypad's register, which gives its immediate. -/
def ldAtDevice : State := { base with pc := 0xFEFF, mem := [(0xFEFF, 0x3E)] }

theorem witness_step_reads_device_immediate :
    (Spec.fetchBytes 2 ldAtDevice.pc ldAtDevice).1 = encode (.ldAN8 (Config.deviceRead 0xFF00 [])) ∧
      ∃ t, exec (.ldAN8 (Config.deviceRead 0xFF00 [])) (Spec.fetchBytes 2 ldAtDevice.pc ldAtDevice).2 = .next t :=
  ⟨rfl, _, rfl⟩

theorem witness_fetch_from_closed :
    { closed with pc := 0x9FFF }.fault = none ∧ { closed with pc := 0x9FFF }.blocked 0x9FFF = true ∧
      { closed with pc := 0xFE00 }.blocked 0xFE00 = true := ⟨rfl, rfl, rfl⟩

theorem witness_unimplemented :
    (base.fault = none ∧ ({ base with mem := [(0x0100, 0xFD)] }.memRead 0x0100).1 = 0xFD) ∧
      ({ base with mem := [(0x0100, 0x76)] }.memRead 0x0100).1 = 0x76 ∧ base.params.haltStop = .fault :=
  ⟨⟨rfl, rfl⟩, rfl, rfl⟩

/-- Only bits 7..5 are pending, whatever the collaborators request. -/
def undefinedPending : State := { base with ime := true, mem := [(0xFF0F, 0x80), (0xFFFF, 0x80)] }

theorem witness_fault_from_lookup :
    ∃ t r, step { base with mem := [(0x0100, 0xDD)] } = .next t ∧ t.fault = some r := ⟨_, _, rfl, rfl⟩

theorem witness_fault_from_interrupt_check : ∃ t r, step undefinedPending = .next t ∧ t.fault = some r := by
  refine ⟨_, ⟨.undefinedInterruptSource, 0x80, 0x0101⟩, rfl, ?_⟩
  change ((({ undefinedPending with pc := 0x0101, cycles := 4 }.ppuStep 4).externalRequests).handleInterrupts).fault = _
  unfold State.externalRequests
  simp only
  generalize Config.extIrq _ _ _ = r
  rcases r with ⟨_ | _, _ | _, _ | _⟩ <;> rfl

theorem witness_step_without_dispatch : ∃ t, step base = .next t ∧ t.fault = none := ⟨_, rfl, rfl⟩

theorem witness_step_with_dispatch : ∃ t, step pending1 = .next t ∧ t.fault = none ∧ t.ime = false := by
  refine ⟨_, rfl, ?_⟩
  change ((({ pending1 with pc := 0x1235, cycles := 4 }.ppuStep 4).externalRequests).handleInterrupts).fault = _ ∧
    ((({ pending1 with pc := 0x1235, cycles := 4 }.ppuStep 4).externalRequests).handleInterrupts).ime = _
  unfold State.externalRequests
  simp only
  generalize Config.extIrq _ _ _ = r
  rcases r with ⟨_ | _, _ | _, _ | _⟩ <;> exact ⟨rfl, rfl⟩

/-- Sources n and 4 of five, all of them enabled, are pending. -/
def pendingFrom (n : Nat) : State :=
  { pending1 with mem := [(0xFF0F, (BitVec.ofNat 8 (2 ^ n)) ||| 0x10), (0xFFFF, 0xFF)] }

theorem witness_interrupt_check :
    base.ime = false ∧ { base with ime := true }.peek 0xFF0F &&& { base with ime := true }.peek 0xFFFF = 0 ∧
      (undefinedPending.ime = true ∧ undefinedPending.peek 0xFF0F &&& undefinedPending.peek 0xFFFF ≠ 0 ∧
        undefinedPending.peek 0xFF0F &&& undefinedPending.peek 0xFFFF &&& 0x1F = 0) ∧
      ∀ n < 5, (pendingFrom n).ime = true ∧ ((pendingFrom n).peek 0xFF0F &&& (pendingFrom n).peek 0xFFFF).getLsbD n = true ∧
        ∀ m < n, ((pendingFrom n).peek 0xFF0F &&& (pendingFrom n).peek 0xFFFF).getLsbD m = false := by
  refine ⟨rfl, rfl, ⟨rfl, by decide, rfl⟩, by decide⟩

theorem witness_return_after_dispatch :
    pending1.memoryCanonical ∧ pending1.ime = true ∧ Spec.plain pending1 (pending1.sp - 1) ∧
      Spec.plain pending1 (pending1.sp - 2) ∧ pending1.sp - 1 ≠ 0xFF0F ∧ pending1.sp - 2 ≠ 0xFF0F :=
  ⟨rfl, rfl, ⟨rfl, by decide⟩, ⟨rfl, by decide⟩, by decide, by decide⟩

theorem witness_nested : pending1.ime = true := rfl

theorem witness_canonical_memory : pending1.memoryCanonical ∧ (0x0000 : Word) ≠ 0xFF0F ∧ ¬ Spec.rewritten 0xFF40 :=
  ⟨rfl, by decide, by rintro (h | h | h) <;> exact absurd h (by decide)⟩

theorem base_screen_shaped : base.screenShaped :=
  ⟨rfl, fun row h => by rw [List.eq_of_mem_replicate h]; rfl, rfl⟩

/-- The last visible line, with the background enabled, and both passes. -/
def lastLine (lcdc : Byte) : State := { base with ly := 143, mem := [(0xFF40, lcdc)] }

theorem witness_render_one_row :
    base.screenShaped ∧ base.ly ≠ 143 ∧ 144 ≤ { base with ly := 144 }.ly ∧ (base.peek 0xFF40).getLsbD 0 = false ∧
      (base.peek 0xFF40).getLsbD 1 = false :=
  ⟨base_screen_shaped, by decide, by decide, rfl, rfl⟩

theorem witness_background_pass :
    (lastLine 0x01).screenShaped ∧ (lastLine 0x01).ly < 144 ∧ ((lastLine 0x01).peek 0xFF40).getLsbD 0 = true ∧
      ((lastLine 0x01).peek 0xFF40).getLsbD 1 = false :=
  ⟨base_screen_shaped, by decide, rfl, rfl⟩

theorem witness_sprite_selection :
    Spec.covers { base with mem := twelve } 0 8 4 ∧ 4 ∉ { base with mem := twelve }.spritesOn 0 8 ∧
      10 ∈ { base with mem := twelve }.spritesOn 0 8 := by
  rw [test_render_keeps_ten]
  exact ⟨⟨by decide, by decide +kernel, by decide +kernel⟩, by decide, by decide⟩

theorem witness_sprite_pass :
    { base with mem := twelve }.screenShaped ∧ { base with mem := twelve }.ly < 144 ∧
      ({ base with mem := twelve }.peek 0xFF40).getLsbD 1 = true ∧
      Spec.spritesAt { base with mem := twelve } 0x02 0 0 2 = some 3 ∧
      Spec.spritesAt { base with mem := twelve } 0x02 0 0 159 = none := by
  unfold Spec.spritesAt
  rw [show Spec.heightOf 0x02 = 8 from rfl, test_render_keeps_ten]
  exact ⟨base_screen_shaped, by decide, by decide +kernel, by decide +kernel, by decide +kernel⟩

theorem witness_sprites_below_background :
    Spec.spriteAt { base with mem := twelve } 0 0 8 10 2 = some 3 ∧
      Spec.spriteAt { base with mem := [(0x8010, 0xFF), (0xFE00, 16), (0xFE01, 8), (0xFE02, 1), (0xFE03, 0x80)] } 3 0 8 0 0 =
        none := by decide +kernel

theorem witness_launch_image : Memory.wf [(0x0000, 0x3E), (0xFFFF, 0x01)] = true := rfl

theorem base_invariant : Spec.Invariant base :=
  ⟨rfl, rfl, ⟨by decide, by decide⟩, base_screen_shaped, rfl⟩

theorem witness_invariant_steps : Spec.Invariant base ∧ ∃ t, step base = .next t := ⟨base_invariant, _, rfl⟩

/-- The self-loop of an ended run, just below video RAM. -/
def endedRun : State := { base with pc := 0x7FFE, mem := [(0x7FFE, 0x18), (0x7FFF, 0xFE)] }

theorem witness_ended_run :
    endedRun.ended ∧ endedRun.pc ∉ endedRun.params.deviceAddrs ∧ endedRun.pc + 1 ∉ endedRun.params.deviceAddrs ∧
      ¬ Spec.rewritten endedRun.pc ∧ ¬ Spec.rewritten (endedRun.pc + 1) :=
  ⟨⟨rfl, rfl, rfl, rfl, rfl, rfl⟩, by decide, by decide,
    by rintro (h | h | h) <;> exact absurd h (by decide), by rintro (h | h | h) <;> exact absurd h (by decide)⟩

end Sys2Proof.Tests
end

section
/-! PROOFS. The register file and its pair views (10_state.md R17 to R19): the model's word and flag
functions in the bit-vector terms of the statement, then the ten clauses. -/

namespace Sys2Proof.Machine

open Sys2Proof.Spec

/-! Words and their bytes as concatenations and extractions. -/

theorem wordOf_eq_append (hi lo : Byte) : wordOf hi lo = hi ++ lo := by
  apply BitVec.eq_of_toNat_eq
  rw [wordOf_toNat, BitVec.toNat_append, ← Nat.shiftLeft_add_eq_or_of_lt lo.isLt, Nat.shiftLeft_eq]

theorem hiByte_eq_high (v : Word) : hiByte v = high v := by
  apply BitVec.eq_of_toNat_eq
  rw [hiByte_toNat, high, BitVec.extractLsb'_toNat, Nat.shiftRight_eq_div_pow]
  omega

theorem loByte_eq_low (v : Word) : loByte v = low v := by
  apply BitVec.eq_of_toNat_eq
  rw [loByte_toNat, low, BitVec.extractLsb'_toNat, Nat.shiftRight_zero]

theorem high_append_low (v : Word) : high v ++ low v = v :=
  (BitVec.extractLsb'_append_extractLsb'_eq_extractLsb' rfl).trans BitVec.extractLsb'_eq_self

theorem high_append_low_masked (v : Word) : high v ++ (low v &&& 0xF0) = v &&& 0xFFF0 := by
  have hhigh : high v &&& 0xFF = high v := BitVec.and_allOnes
  have hmask : (0xFFF0 : Word) = (0xFF : Byte) ++ (0xF0 : Byte) := rfl
  calc high v ++ (low v &&& 0xF0)
      = (high v ++ low v) &&& ((0xFF : Byte) ++ (0xF0 : Byte)) := by rw [BitVec.and_append, hhigh]
    _ = v &&& 0xFFF0 := by rw [high_append_low, hmask]

/-- Decomposing F and encoding it again drops the low nibble (10_state.md R19, R21). -/
theorem Flags.toByte_ofByte (f : Byte) : (Flags.ofByte f).toByte = f &&& 0xF0 := by
  revert f
  decide

theorem State.setReg8_reg8 (s : State) (r r' : Reg8) (v : Byte) :
    (s.setReg8 r v).reg8 r' = if r' = r then v else s.reg8 r' := by
  cases r <;> cases r' <;> rfl

theorem State.setReg16_reg16 (s : State) (r : Reg16) (v : Word) : (s.setReg16 r v).reg16 r = v := by
  cases r with
  | sp => rfl
  | bc | de | hl => exact wordOf_hiByte_loByte v

theorem State.setRegStk_af_eq (s : State) (v : Word) :
    s.setRegStk .af v = { s with a := high v, f := low v &&& 0xF0 } := by
  simp only [State.setRegStk, State.setF, State.setFlags, Flags.toByte_ofByte, hiByte_eq_high, loByte_eq_low]

/-- Settles O5: each clause by cases on the register or pair. -/
theorem registerFileAndPairViews : Obligations.RegisterFileAndPairViews := by
  refine ⟨State.setReg8_reg8, ?_, ?_, ?_, ?_, ?_, ?_, ?_, State.setReg16_reg16, ?_⟩
  · intro s r
    cases r <;> rfl
  · intro s r v
    cases r <;> rfl
  · intro s
    exact ⟨wordOf_eq_append _ _, wordOf_eq_append _ _, wordOf_eq_append _ _, wordOf_eq_append _ _⟩
  · intro s r
    cases r with
    | sp => rfl
    | bc | de | hl => exact wordOf_eq_append _ _
  · intro s r
    cases r <;> exact wordOf_eq_append _ _
  · intro s r v
    cases r <;> simp only [State.setReg16, State.setHl, hiByte_eq_high, loByte_eq_low]
  · intro s r v
    cases r with
    | af => exact s.setRegStk_af_eq v
    | bc | de | hl => simp only [State.setRegStk, State.setHl, hiByte_eq_high, loByte_eq_low]
  · intro s v
    rw [State.setRegStk_af_eq, State.af, wordOf_eq_append]
    exact high_append_low_masked v

end Sys2Proof.Machine
end

section
/-! PROOFS. The frame of an instruction: InstrFrame says what instruction i leaves alone among the registers,
IME, prev_IME, PC and pc_written. Each state operation, then each form, has one lemma that asks for what it
writes to be listed by i; exec_frame reads the forms off the dispatch. -/

namespace Sys2Proof.Machine

open Sys2Proof.Spec

/-- What the effect of instruction i, taking s to t, leaves alone. -/
structure InstrFrame (i : Instr) (s t : State) : Prop where
  reg8 : ∀ r, r ∉ dests i → t.reg8 r = s.reg8 r
  sp : writesSp i = false → t.sp = s.sp
  f : writesFlags i = false → t.f = s.f
  ime : i ∉ [.ei, .di, .reti] → t.ime = s.ime
  prevIme : i ≠ .reti → t.prevIme = s.prevIme
  pc : transfers i = false → t.pc = s.pc
  pcWritten : transfers i = false → t.pcWritten = s.pcWritten

theorem InstrFrame.rfl {i : Instr} {s : State} : InstrFrame i s s :=
  ⟨fun _ _ => .refl _, fun _ => .refl _, fun _ => .refl _, fun _ => .refl _, fun _ => .refl _, fun _ => .refl _,
    fun _ => .refl _⟩

theorem InstrFrame.trans {i : Instr} {s t u : State} (h : InstrFrame i s t) (k : InstrFrame i t u) :
    InstrFrame i s u where
  reg8 r hr := (k.reg8 r hr).trans (h.reg8 r hr)
  sp hi := (k.sp hi).trans (h.sp hi)
  f hi := (k.f hi).trans (h.f hi)
  ime hi := (k.ime hi).trans (h.ime hi)
  prevIme hi := (k.prevIme hi).trans (h.prevIme hi)
  pc hi := (k.pc hi).trans (h.pc hi)
  pcWritten hi := (k.pcWritten hi).trans (h.pcWritten hi)

/-- The 8-bit registers of a pair of the SP set. -/
def pairRegs : Reg16 → List Reg8
  | .bc => [.b, .c]
  | .de => [.d, .e]
  | .hl => [.h, .l]
  | .sp => []

/-- The 8-bit registers of a pair of the AF set, F apart. -/
def stkRegs : Reg16Stk → List Reg8
  | .bc => [.b, .c]
  | .de => [.d, .e]
  | .hl => [.h, .l]
  | .af => [.a]

section
variable {i : Instr}

/-! The state operations. -/

theorem State.memRead_frame (s : State) (x : Word) : InstrFrame i s (s.memRead x).2 := by
  rw [State.memRead_eq]
  exact ⟨fun _ _ => rfl, fun _ => rfl, fun _ => rfl, fun _ => rfl, fun _ => rfl, fun _ => rfl, fun _ => rfl⟩

theorem State.memWrite_frame (s : State) (x : Word) (v : Byte) : InstrFrame i s (s.memWrite x v) := by
  rw [State.memWrite_eq]
  exact ⟨fun _ _ => rfl, fun _ => rfl, fun _ => rfl, fun _ => rfl, fun _ => rfl, fun _ => rfl, fun _ => rfl⟩

theorem State.setFlags_frame (hf : writesFlags i = true) (s : State) (g : Flags) : InstrFrame i s (s.setFlags g) :=
  ⟨fun _ _ => rfl, fun _ => rfl, fun h => absurd (hf.symm.trans h) nofun, fun _ => rfl, fun _ => rfl, fun _ => rfl,
    fun _ => rfl⟩

theorem State.setSp_frame (hsp : writesSp i = true) (s : State) (v : Word) : InstrFrame i s { s with sp := v } :=
  ⟨fun _ _ => rfl, fun h => absurd (hsp.symm.trans h) nofun, fun _ => rfl, fun _ => rfl, fun _ => rfl, fun _ => rfl,
    fun _ => rfl⟩

theorem State.jumpTo_frame (hpc : transfers i = true) (s : State) (x : Word) : InstrFrame i s (s.jumpTo x) :=
  ⟨fun _ _ => rfl, fun _ => rfl, fun _ => rfl, fun _ => rfl, fun _ => rfl, fun h => absurd (hpc.symm.trans h) nofun,
    fun h => absurd (hpc.symm.trans h) nofun⟩

theorem State.setReg8_frame {r : Reg8} (hr : r ∈ dests i) (s : State) (v : Byte) : InstrFrame i s (s.setReg8 r v) where
  reg8 r' hr' := by rw [State.setReg8_reg8, if_neg (ne_of_mem_of_not_mem hr hr').symm]
  sp _ := by simp
  f _ := by simp
  ime _ := by simp
  prevIme _ := by simp
  pc _ := by simp
  pcWritten _ := by simp

theorem State.setPair_frame {r r' : Reg8} (hd : [r, r'] ⊆ dests i) (s : State) (v v' : Byte) :
    InstrFrame i s ((s.setReg8 r v).setReg8 r' v') :=
  (s.setReg8_frame (hd (by simp)) _).trans (State.setReg8_frame (hd (by simp)) _ _)

theorem State.setHl_frame (hd : [.h, .l] ⊆ dests i) (s : State) (v : Word) : InstrFrame i s (s.setHl v) :=
  s.setPair_frame hd (hiByte v) (loByte v)

theorem State.setReg16_frame {r : Reg16} (hd : pairRegs r ⊆ dests i) (hsp : r = .sp → writesSp i = true) (s : State)
    (v : Word) : InstrFrame i s (s.setReg16 r v) := by
  cases r with
  | sp => exact s.setSp_frame (hsp rfl) v
  | bc | de | hl => exact s.setPair_frame hd (hiByte v) (loByte v)

theorem State.setRegStk_frame {r : Reg16Stk} (hd : stkRegs r ⊆ dests i) (hf : r = .af → writesFlags i = true)
    (s : State) (v : Word) : InstrFrame i s (s.setRegStk r v) := by
  cases r with
  | af => exact (s.setReg8_frame (r := .a) (hd (by simp [stkRegs])) _).trans (State.setFlags_frame (hf rfl) _ _)
  | bc | de | hl => exact s.setPair_frame hd (hiByte v) (loByte v)

theorem State.push16_frame (hsp : writesSp i = true) (s : State) (v : Word) : InstrFrame i s (s.push16 v) :=
  ((s.memWrite_frame _ _).trans (State.memWrite_frame _ _ _)).trans (State.setSp_frame hsp _ _)

theorem State.pop16_frame (hsp : writesSp i = true) (s : State) : InstrFrame i s s.pop16.2 :=
  ((s.memRead_frame _).trans (State.memRead_frame _ _)).trans (State.setSp_frame hsp _ _)

theorem State.src8_frame (s : State) (src : Src8) : InstrFrame i s (s.src8 src).2 := by
  cases src with
  | reg | imm => exact .rfl
  | atHl => exact s.memRead_frame _

/-! The forms. -/

theorem loadReg_frame {dst r : Reg8} (hd : dst ∈ dests i) (s : State) : InstrFrame i s (loadReg dst r s) :=
  s.setReg8_frame hd _

theorem loadImm_frame {dst : Reg8} {n : Byte} (hd : dst ∈ dests i) (s : State) : InstrFrame i s (loadImm dst n s) :=
  s.setReg8_frame hd _

theorem loadFrom_frame {dst : Reg8} {address : State → Word} (hd : dst ∈ dests i) (s : State) :
    InstrFrame i s (loadFrom dst address s) :=
  (s.memRead_frame _).trans (State.setReg8_frame hd _ _)

theorem storeTo_frame {address : State → Word} {value : State → Byte} (s : State) :
    InstrFrame i s (storeTo address value s) :=
  s.memWrite_frame _ _

theorem storeSp_frame {address : Word} (s : State) : InstrFrame i s (storeSp address s) :=
  (s.memWrite_frame _ _).trans (State.memWrite_frame _ _ _)

theorem storeThenStepHl_frame {delta : Word} (hd : [.h, .l] ⊆ dests i) (s : State) :
    InstrFrame i s (storeThenStepHl delta s) :=
  (s.memWrite_frame _ _).trans (State.setHl_frame hd _ _)

theorem loadThenStepHl_frame {delta : Word} (ha : .a ∈ dests i) (hd : [.h, .l] ⊆ dests i) (s : State) :
    InstrFrame i s (loadThenStepHl delta s) :=
  ((s.memRead_frame _).trans (State.setReg8_frame ha _ _)).trans (State.setHl_frame hd _ _)

theorem loadPair_frame {r : Reg16} {n : Word} (hd : pairRegs r ⊆ dests i) (hsp : r = .sp → writesSp i = true)
    (s : State) : InstrFrame i s (loadPair r n s) :=
  s.setReg16_frame hd hsp _

theorem incrementPair_frame {r : Reg16} (hd : pairRegs r ⊆ dests i) (hsp : r = .sp → writesSp i = true) (s : State) :
    InstrFrame i s (incrementPair r s) :=
  s.setReg16_frame hd hsp _

theorem decrementPair_frame {r : Reg16} (hd : pairRegs r ⊆ dests i) (hsp : r = .sp → writesSp i = true) (s : State) :
    InstrFrame i s (decrementPair r s) :=
  s.setReg16_frame hd hsp _

theorem loadSpFromHl_frame (hsp : writesSp i = true) (s : State) : InstrFrame i s (loadSpFromHl s) :=
  s.setSp_frame hsp _

theorem loadHlFromSp_frame {e : Byte} (hd : [.h, .l] ⊆ dests i) (hf : writesFlags i = true) (s : State) :
    InstrFrame i s (loadHlFromSp e s) :=
  (s.setHl_frame hd _).trans (State.setFlags_frame hf _ _)

theorem addToHl_frame {r : Reg16} (hd : [.h, .l] ⊆ dests i) (hf : writesFlags i = true) (s : State) :
    InstrFrame i s (addToHl r s) :=
  (s.setHl_frame hd _).trans (State.setFlags_frame hf _ _)

theorem addToSp_frame {e : Byte} (hsp : writesSp i = true) (hf : writesFlags i = true) (s : State) :
    InstrFrame i s (addToSp e s) :=
  (s.setSp_frame hsp _).trans (State.setFlags_frame hf _ _)

theorem pushPair_frame {r : Reg16Stk} (hsp : writesSp i = true) (s : State) : InstrFrame i s (pushPair r s) :=
  s.push16_frame hsp _

theorem popPair_frame {r : Reg16Stk} (hsp : writesSp i = true) (hd : stkRegs r ⊆ dests i)
    (hf : r = .af → writesFlags i = true) (s : State) : InstrFrame i s (popPair r s) :=
  (s.pop16_frame hsp).trans (State.setRegStk_frame hd hf _ _)

theorem accumulate_frame {op : AluOp} {src : Src8} (ha : .a ∈ dests i) (hf : writesFlags i = true) (s : State) :
    InstrFrame i s (accumulate op src s) :=
  ((s.src8_frame src).trans (State.setReg8_frame ha _ _)).trans (State.setFlags_frame hf _ _)

/-- CP computes flags only: A is written with its own value (41_alu8.md R130). -/
theorem accumulate_cp_frame {src : Src8} (hf : writesFlags i = true) (s : State) :
    InstrFrame i s (accumulate .cp src s) :=
  (s.src8_frame src).trans (State.setFlags_frame hf _ _)

theorem incrementReg_frame {r : Reg8} (hd : r ∈ dests i) (hf : writesFlags i = true) (s : State) :
    InstrFrame i s (incrementReg r s) :=
  (s.setReg8_frame hd _).trans (State.setFlags_frame hf _ _)

theorem decrementReg_frame {r : Reg8} (hd : r ∈ dests i) (hf : writesFlags i = true) (s : State) :
    InstrFrame i s (decrementReg r s) :=
  (s.setReg8_frame hd _).trans (State.setFlags_frame hf _ _)

theorem incrementAtHl_frame (hf : writesFlags i = true) (s : State) : InstrFrame i s (incrementAtHl s) :=
  ((s.memRead_frame _).trans (State.memWrite_frame _ _ _)).trans (State.setFlags_frame hf _ _)

theorem decrementAtHl_frame (hf : writesFlags i = true) (s : State) : InstrFrame i s (decrementAtHl s) :=
  ((s.memRead_frame _).trans (State.memWrite_frame _ _ _)).trans (State.setFlags_frame hf _ _)

theorem setAcc_frame (ha : .a ∈ dests i) (hf : writesFlags i = true) (s : State) (r : Byte × Flags) :
    InstrFrame i s (setAcc s r) :=
  (s.setReg8_frame (r := .a) ha _).trans (State.setFlags_frame hf _ _)

theorem callTo_frame {size target : Word} (hsp : writesSp i = true) (hpc : transfers i = true) (s : State) :
    InstrFrame i s (callTo size target s) :=
  (s.push16_frame hsp _).trans (State.jumpTo_frame hpc _ _)

theorem returnFromCall_frame (hsp : writesSp i = true) (hpc : transfers i = true) (s : State) :
    InstrFrame i s (returnFromCall s) :=
  (s.pop16_frame hsp).trans (State.jumpTo_frame hpc _ _)

theorem when_frame {cc : Cond} {body : State → State} (hbody : ∀ s, InstrFrame i s (body s)) (s : State) :
    InstrFrame i s (when cc body s) := by
  unfold when
  split
  · exact hbody s
  · exact .rfl

theorem setIme_frame {v : Bool} (hime : i ∈ [.ei, .di, .reti]) (s : State) : InstrFrame i s (setIme v s) :=
  ⟨fun _ _ => rfl, fun _ => rfl, fun _ => rfl, fun h => absurd hime h, fun _ => rfl, fun _ => rfl, fun _ => rfl⟩

theorem returnFromInterrupt_frame (s : State) : InstrFrame .reti s s.returnFromInterrupt where
  reg8 r hr := ((s.pop16_frame rfl).reg8 r hr :)
  sp := nofun
  f h := ((s.pop16_frame rfl).f h :)
  ime h := absurd (by simp) h
  prevIme h := absurd rfl h
  pc := nofun
  pcWritten := nofun

end

theorem haltOrStop_frame (i : Instr) (s : State) :
    (∃ body, haltOrStop i s = complete i body s ∧ ∀ u, InstrFrame i u (body u)) ∨
      haltOrStop i s = unimplemented i s := by
  unfold haltOrStop
  cases s.params.haltStop with
  | fault => exact .inr rfl
  | nop => exact .inl ⟨_, rfl, fun _ => .rfl⟩

/-- Either exec raises UnimplementedOpcode, or it completes the instruction with an effect that keeps its frame. -/
theorem exec_frame (i : Instr) (s : State) :
    (∃ body, exec i s = complete i body s ∧ ∀ u, InstrFrame i u (body u)) ∨ exec i s = unimplemented i s := by
  cases i with
  | nop => exact .inl ⟨_, rfl, fun _ => .rfl⟩
  | ldBB | ldBC | ldBD | ldBE | ldBH | ldBL | ldBA | ldCB | ldCC | ldCD | ldCE | ldCH | ldCL | ldCA | ldDB
    | ldDC | ldDD | ldDE | ldDH | ldDL | ldDA | ldEB | ldEC | ldED | ldEE | ldEH | ldEL | ldEA | ldHB | ldHC
    | ldHD | ldHE | ldHH | ldHL | ldHA | ldLB | ldLC | ldLD | ldLE | ldLH | ldLL | ldLA | ldAB | ldAC | ldAD
    | ldAE | ldAH | ldAL | ldAA =>
    exact .inl ⟨_, rfl, loadReg_frame (.head _)⟩
  | ldBN8 _ | ldCN8 _ | ldDN8 _ | ldEN8 _ | ldHN8 _ | ldLN8 _ | ldAN8 _ =>
    exact .inl ⟨_, rfl, loadImm_frame (.head _)⟩
  | ldAAtBc | ldAAtDe | ldBAtHl | ldCAtHl | ldDAtHl | ldEAtHl | ldHAtHl | ldLAtHl | ldAAtHl | ldhAAtA8 _
    | ldAAtC | ldAAtA16 _ =>
    exact .inl ⟨_, rfl, loadFrom_frame (.head _)⟩
  | ldAtBcA | ldAtDeA | ldAtHlN8 _ | ldAtHlB | ldAtHlC | ldAtHlD | ldAtHlE | ldAtHlH | ldAtHlL | ldAtHlA
    | ldhAtA8A _ | ldAtCA | ldAtA16A _ =>
    exact .inl ⟨_, rfl, storeTo_frame⟩
  | ldAtA16Sp _ => exact .inl ⟨_, rfl, storeSp_frame⟩
  | ldAtHlIncA | ldAtHlDecA => exact .inl ⟨_, rfl, storeThenStepHl_frame (List.Subset.refl _)⟩
  | ldAAtHlInc | ldAAtHlDec => exact .inl ⟨_, rfl, loadThenStepHl_frame (.head _) (List.subset_cons_self _ _)⟩
  | ldBcN16 _ | ldDeN16 _ | ldHlN16 _ => exact .inl ⟨_, rfl, loadPair_frame (List.Subset.refl _) nofun⟩
  | ldSpN16 _ => exact .inl ⟨_, rfl, loadPair_frame (List.Subset.refl _) fun _ => rfl⟩
  | incBc | incDe | incHl => exact .inl ⟨_, rfl, incrementPair_frame (List.Subset.refl _) nofun⟩
  | incSp => exact .inl ⟨_, rfl, incrementPair_frame (List.Subset.refl _) fun _ => rfl⟩
  | decBc | decDe | decHl => exact .inl ⟨_, rfl, decrementPair_frame (List.Subset.refl _) nofun⟩
  | decSp => exact .inl ⟨_, rfl, decrementPair_frame (List.Subset.refl _) fun _ => rfl⟩
  | ldSpHl => exact .inl ⟨_, rfl, loadSpFromHl_frame rfl⟩
  | ldHlSpE8 _ => exact .inl ⟨_, rfl, loadHlFromSp_frame (List.Subset.refl _) rfl⟩
  | addHlBc | addHlDe | addHlHl | addHlSp => exact .inl ⟨_, rfl, addToHl_frame (List.Subset.refl _) rfl⟩
  | addSpE8 _ => exact .inl ⟨_, rfl, addToSp_frame rfl rfl⟩
  | pushBc | pushDe | pushHl | pushAf => exact .inl ⟨_, rfl, pushPair_frame rfl⟩
  | popBc | popDe | popHl => exact .inl ⟨_, rfl, popPair_frame rfl (List.Subset.refl _) nofun⟩
  | popAf => exact .inl ⟨_, rfl, popPair_frame rfl (List.Subset.refl _) fun _ => rfl⟩
  | addAB | addAC | addAD | addAE | addAH | addAL | addAAtHl | addAA | adcAB | adcAC | adcAD | adcAE | adcAH
    | adcAL | adcAAtHl | adcAA | subB | subC | subD | subE | subH | subL | subAtHl | subA | sbcAB | sbcAC | sbcAD
    | sbcAE | sbcAH | sbcAL | sbcAAtHl | sbcAA | andB | andC | andD | andE | andH | andL | andAtHl | andA | xorB
    | xorC | xorD | xorE | xorH | xorL | xorAtHl | xorA | orB | orC | orD | orE | orH | orL | orAtHl | orA
    | addAN8 _ | adcAN8 _ | subN8 _ | sbcAN8 _ | andN8 _ | xorN8 _ | orN8 _ =>
    exact .inl ⟨_, rfl, accumulate_frame (.head _) rfl⟩
  | cpB | cpC | cpD | cpE | cpH | cpL | cpAtHl | cpA | cpN8 _ => exact .inl ⟨_, rfl, accumulate_cp_frame rfl⟩
  | incB | incC | incD | incE | incH | incL | incA => exact .inl ⟨_, rfl, incrementReg_frame (.head _) rfl⟩
  | decB | decC | decD | decE | decH | decL | decA => exact .inl ⟨_, rfl, decrementReg_frame (.head _) rfl⟩
  | incAtHl => exact .inl ⟨_, rfl, incrementAtHl_frame rfl⟩
  | decAtHl => exact .inl ⟨_, rfl, decrementAtHl_frame rfl⟩
  | rlca | rrca | rla | rra | daa | cpl => exact .inl ⟨_, rfl, fun u => setAcc_frame (.head _) rfl u _⟩
  | scf | ccf => exact .inl ⟨_, rfl, fun u => u.setFlags_frame rfl _⟩
  | jrE8 _ | jpA16 _ | jpHl => exact .inl ⟨_, rfl, fun u => u.jumpTo_frame rfl _⟩
  | rst00 | callA16 _ | rst08 | rst10 | rst18 | rst20 | rst28 | rst30 | rst38 =>
    exact .inl ⟨_, rfl, callTo_frame rfl rfl⟩
  | ret => exact .inl ⟨_, rfl, returnFromCall_frame rfl rfl⟩
  | jrNzE8 _ | jrZE8 _ | jrNcE8 _ | jrCE8 _ | jpNzA16 _ | jpZA16 _ | jpNcA16 _ | jpCA16 _ =>
    exact .inl ⟨_, rfl, when_frame fun u => u.jumpTo_frame rfl _⟩
  | callNzA16 _ | callZA16 _ | callNcA16 _ | callCA16 _ => exact .inl ⟨_, rfl, when_frame (callTo_frame rfl rfl)⟩
  | retNz | retZ | retNc | retC => exact .inl ⟨_, rfl, when_frame (returnFromCall_frame rfl rfl)⟩
  | di | ei => exact .inl ⟨_, rfl, setIme_frame (by simp)⟩
  | reti => exact .inl ⟨_, rfl, returnFromInterrupt_frame⟩
  | stop _ | halt => exact haltOrStop_frame _ s
  | prefixCb | illegalD3 | illegalDB | illegalDD | illegalE3 | illegalE4 | illegalEB | illegalEC | illegalED
    | illegalF4 | illegalFC | illegalFD =>
    exact .inr rfl

/-- The frame of a next state: a completed instruction keeps it up to the end of the step, and a fault writes only
its record. -/
theorem exec_next_frame {i : Instr} {s t : State} (h : exec i s = .next t) :
    (∃ u, InstrFrame i { s with pcWritten := false } u ∧ t = retire i u) ∨
      t = s.raiseFault .unimplementedOpcode i.opcode s.pc := by
  rcases exec_frame i s with ⟨body, hexec, hbody⟩ | hexec <;> rw [hexec] at h <;> cases h
  · exact .inl ⟨_, hbody _, rfl⟩
  · exact .inr rfl

/-- The count and the record apart, what exec answers is the effect of an instruction. -/
theorem exec_cpuEffect {i : Instr} {s t : State} (h : exec i s = .next t) :
    CpuEffect s { t with cycles := s.cycles, fault := s.fault } := by
  obtain ⟨t', ht', hcases⟩ := exec_next i s
  rw [ht'] at h
  cases h
  rcases hcases with ⟨u, hu, rfl⟩ | rfl
  · have hcleared : CpuEffect s { s with pcWritten := false } := .of_eq rfl id
    exact (hcleared.trans hu).trans (.of_eq (by simp [retire, hu.cycles, hu.fault]) id)
  · exact .of_eq rfl id

/-- Settles O37 by exec_frame: the end of the step writes PC, pc_written and the count, none of which the statement names. -/
theorem registersOutsideTheDestinationsAreKept : Obligations.RegistersOutsideTheDestinationsAreKept := by
  intro i s t h
  rcases exec_next_frame h with ⟨u, hu, rfl⟩ | rfl
  · exact ⟨hu.reg8, hu.sp, hu.f⟩
  · exact ⟨fun _ _ => rfl, fun _ => rfl, fun _ => rfl⟩

theorem InstrFrame.retire_pc {i : Instr} {s u : State} (h : InstrFrame i { s with pcWritten := false } u)
    (hi : transfers i = false) : (retire i u).pc = s.pc + BitVec.ofNat 16 i.size := by
  have hpc : u.pc = s.pc := h.pc hi
  have hwritten : u.pcWritten = false := h.pcWritten hi
  simp [retire, State.nextPc, hpc, hwritten]

/-- Settles O38: IME, prev_IME and PC by the instruction's frame, the rest by what every effect keeps. -/
theorem controlStateIsKept : Obligations.ControlStateIsKept := by
  intro i s t h
  have hkept := exec_cpuEffect h
  have hframe : (i ∉ [.ei, .di, .reti] → t.ime = s.ime) ∧ (i ≠ .reti → t.prevIme = s.prevIme) ∧
      (transfers i = false → t.pc = s.pc + BitVec.ofNat 16 i.size ∨ t = { s with fault := t.fault }) := by
    rcases exec_next_frame h with ⟨u, hu, rfl⟩ | rfl
    · exact ⟨hu.ime, hu.prevIme, fun hi => .inl (hu.retire_pc hi)⟩
    · exact ⟨fun _ => rfl, fun _ => rfl, fun _ => .inr rfl⟩
  obtain ⟨hime, hprevIme, hpc⟩ := hframe
  exact ⟨hime, hprevIme, hkept.halted, hkept.stopped, hkept.mode, hkept.ly, hkept.acc, hkept.fb, hkept.bgIndex,
    hkept.params, hkept.draws, hkept.history, hpc⟩

end Sys2Proof.Machine
end

section
/-! PROOFS. Every step keeps the machine's invariant: one lemma per part of a driving-loop iteration
(fetch, exec, PPU step, collaborators' requests, interrupt check), chained by everyStepKeepsTheInvariant. -/

namespace Sys2Proof.Machine

open Sys2Proof.Spec

/-! The screen's shape (10_state.md R36, R37). -/

/-- A row of a shaped framebuffer, for a visible line, has 160 pixels. -/
theorem State.fbRow_length {s : State} (hs : s.screenShaped) {y : Nat} (hy : y < 144) : (s.fbRow y).length = 160 := by
  obtain ⟨hrows, hpixels, -⟩ := hs
  rw [State.fbRow, List.getD_eq_getElem _ _ (hrows ▸ hy)]
  exact hpixels _ (List.getElem_mem _)

theorem State.setFbRow_screenShaped {s : State} (hs : s.screenShaped) (y : Nat) {row : List Rgba}
    (hrow : row.length = 160) : (s.setFbRow y row).screenShaped := by
  obtain ⟨hrows, hpixels, hbg⟩ := hs
  refine ⟨List.length_set.trans hrows, fun r hr => ?_, hbg⟩
  rcases List.mem_or_eq_of_mem_set hr with h | h
  · exact hpixels r h
  · exact h ▸ hrow

theorem State.backgroundPass_screenShaped {s : State} (hs : s.screenShaped) (y : Nat) (lcdc : Byte) :
    (s.backgroundPass y lcdc).screenShaped := by
  obtain ⟨hrows, hpixels, -⟩ :=
    State.setFbRow_screenShaped hs y (row := ((List.range 160).map (s.bgColour lcdc y)).map s.colour) (by simp)
  exact ⟨hrows, hpixels, by simp [State.backgroundPass]⟩

/-- Drawing a sprite recolours pixels of the row and adds none. -/
theorem State.drawSprite_length (s : State) (y h : Nat) (row : List Rgba) (i : Nat) :
    (s.drawSprite y h row i).length = row.length :=
  List.foldlRecOn (motive := fun r : List Rgba => r.length = row.length) _ _ rfl fun r hr p _ => by
    cases s.spritePixel i y h p with
    | none => exact hr
    | some pixel => exact List.length_set.trans hr

theorem State.spritePass_screenShaped {s : State} (hs : s.screenShaped) {y : Nat} (hy : y < 144) (lcdc : Byte) :
    (s.spritePass y lcdc).screenShaped :=
  State.setFbRow_screenShaped hs y <|
    List.foldlRecOn (motive := fun r : List Rgba => r.length = 160) _ _ (State.fbRow_length hs hy) fun _ hr i _ =>
      (s.drawSprite_length _ _ _ i).trans hr

theorem State.renderScanline_screenShaped {s : State} (hs : s.screenShaped) : s.renderScanline.screenShaped := by
  unfold State.renderScanline
  split
  · exact hs
  · next hly =>
    obtain ⟨hrows, hpixels, -⟩ := hs
    have hcleared : { s with bgIndex := List.replicate 160 0 }.screenShaped :=
      ⟨hrows, hpixels, List.length_replicate⟩
    simp only
    split <;> split
    · exact State.spritePass_screenShaped (State.backgroundPass_screenShaped hcleared _ _) (by omega) _
    · exact State.spritePass_screenShaped hcleared (by omega) _
    · exact State.backgroundPass_screenShaped hcleared _ _
    · exact hcleared

/-! The mode machine (60_exceptions.md R178, R179). -/

theorem State.hblankStep_scanlineLegal {s : State} (hs : s.scanlineLegal) (hmode : s.mode = .hblank) :
    s.hblankStep.scanlineLegal := by
  obtain ⟨-, hvblank⟩ := hs
  have hly : ¬ 144 ≤ s.ly := by simp [hvblank, hmode]
  unfold State.hblankStep
  split
  · split
    · next hnext => exact ⟨by simp; omega, by simp; omega⟩
    · next hlast => exact ⟨by simp [State.requestVblank]; omega, by simp [State.requestVblank]; omega⟩
  · exact ⟨by omega, hvblank⟩

theorem State.vblankStep_scanlineLegal {s : State} (hs : s.scanlineLegal) (hmode : s.mode = .vblank) :
    s.vblankStep.scanlineLegal := by
  have hly : 144 ≤ s.ly := hs.2.mpr hmode
  unfold State.vblankStep
  split
  · split
    · exact ⟨by simp, by simp⟩
    · exact hs
  · split
    · split
      · exact ⟨by simp, by simp⟩
      · exact ⟨by have := hs.1; simp; omega, by simp [hmode]; omega⟩
    · exact hs

theorem State.modeStep_scanlineLegal {s : State} (hs : s.scanlineLegal) : s.modeStep.scanlineLegal := by
  unfold State.modeStep
  split
  · next hmode =>
    split
    · exact ⟨hs.1, by simpa [hmode] using hs.2⟩
    · exact hs
  · next hmode =>
    split
    · rw [State.renderScanline_eq]
      exact ⟨hs.1, by simpa [hmode] using hs.2⟩
    · exact hs
  · next hmode => exact State.hblankStep_scanlineLegal hs hmode
  · next hmode => exact State.vblankStep_scanlineLegal hs hmode

theorem State.modeStep_screenShaped {s : State} (hs : s.screenShaped) : s.modeStep.screenShaped := by
  unfold State.modeStep
  split
  · split <;> exact hs
  · split
    · exact State.renderScanline_screenShaped hs
    · exact hs
  · unfold State.hblankStep
    split <;> (try split) <;> exact hs
  · unfold State.vblankStep
    split <;> (try split) <;> (try split) <;> exact hs

/-! The parts of an iteration (60_exceptions.md R193). -/

/-- What CpuEffect keeps is all of the invariant but pc_written. -/
theorem CpuEffect.invariant {s t : State} (h : CpuEffect s t) (hs : Invariant s) (hpc : t.pcWritten = false) :
    Invariant t where
  memory := h.memory hs.memory
  flags := h.flags hs.flags
  scanline := by unfold State.scanlineLegal; rw [h.ly, h.mode]; exact hs.scanline
  screen := by unfold State.screenShaped; rw [h.fb, h.bgIndex]; exact hs.screen
  stepLocal := hpc

theorem fetch_invariant {s : State} (hs : Invariant s) : Invariant (fetch s).2 :=
  (fetch_effect s).invariant hs (by rw [fetch_eq]; exact hs.stepLocal)

theorem exec_pcWritten {i : Instr} {s t : State} (hs : s.pcWritten = false) (h : exec i s = .next t) :
    t.pcWritten = false := by
  rcases exec_next_frame h with ⟨u, -, rfl⟩ | rfl
  · rfl
  · exact hs

theorem exec_invariant {i : Instr} {s t : State} (hs : Invariant s) (h : exec i s = .next t) : Invariant t := by
  have hpc : t.pcWritten = false := exec_pcWritten hs.stepLocal h
  obtain ⟨hmemory, hflags, hscanline, hscreen, -⟩ := (exec_cpuEffect h).invariant hs hpc
  exact ⟨hmemory, hflags, hscanline, hscreen, hpc⟩

theorem State.ppuStep_invariant {s : State} (hs : Invariant s) (c : Nat) : Invariant (s.ppuStep c) where
  memory := State.ppuStep_wf hs.memory c
  flags := by rw [State.ppuStep_eq]; exact hs.flags
  scanline := State.modeStep_scanlineLegal (s := { s with acc := s.acc + c }) hs.scanline
  screen := State.modeStep_screenShaped (s := { s with acc := s.acc + c }) hs.screen
  stepLocal := by rw [State.ppuStep_eq]; exact hs.stepLocal

theorem State.externalRequests_invariant {s : State} (hs : Invariant s) : Invariant s.externalRequests :=
  ⟨State.externalRequests_wf hs.memory, hs.flags, hs.scanline, hs.screen, hs.stepLocal⟩

theorem State.handleInterrupts_invariant {s : State} (hs : Invariant s) : Invariant s.handleInterrupts := by
  rcases s.handleInterrupts_cases with h | ⟨-, -, -, h⟩ | ⟨-, n, -, h⟩ <;> rw [h]
  · exact hs
  · exact ⟨hs.memory, hs.flags, hs.scanline, hs.screen, hs.stepLocal⟩
  · have hm := State.takeInterrupt_wf hs.memory n
    rw [State.takeInterrupt_eq]
    exact ⟨hm, hs.flags, hs.scanline, hs.screen, hs.stepLocal⟩

theorem State.finishIteration_invariant {s : State} (hs : Invariant s) (i : Instr) :
    Invariant (s.finishIteration i) := by
  unfold State.finishIteration
  split
  · exact hs
  · exact State.handleInterrupts_invariant (State.externalRequests_invariant (State.ppuStep_invariant hs _))

/-- Settles O59: the invariant passes through the CPU step and the rest of the iteration. -/
theorem everyStepKeepsTheInvariant : Obligations.EveryStepKeepsTheInvariant := by
  intro s t hs hstep
  obtain ⟨-, u, hexec, rfl⟩ := step_next hstep
  exact State.finishIteration_invariant (exec_invariant (fetch_invariant hs) hexec) _

end Sys2Proof.Machine
end

section
/-! PROOFS. The launch state (10_state.md R46 to R50) and the base case of the invariant. -/

namespace Sys2Proof.Machine

open Sys2Proof.Spec

/-- At power-on every byte of the framebuffer is zero, inside the screen and beyond it. -/
theorem State.launch_fbByte (p : Params) (image : Memory) (n : Nat) : (State.launch p image).fbByte n = 0 := by
  have hpixel : ∀ x y, ((State.launch p image).fbRow y).getD x ⟨0, 0, 0, 0⟩ = ⟨0, 0, 0, 0⟩ := by
    intro x y
    simp only [State.fbRow, State.launch, List.getD_eq_getElem?_getD, List.getElem?_replicate]
    split
    · rw [Option.getD_some, List.getElem?_replicate]
      split <;> rfl
    · rfl
  rw [State.fbByte, hpixel]
  unfold pixelByte
  split <;> rfl

theorem State.launch_screenShaped (p : Params) (image : Memory) : (State.launch p image).screenShaped :=
  ⟨List.length_replicate, fun _ hrow => List.eq_of_mem_replicate hrow ▸ List.length_replicate, List.length_replicate⟩

theorem State.launch_invariant (p : Params) {image : Memory} (himage : image.wf = true) :
    Invariant (State.launch p image) where
  memory := himage
  flags := (rfl : (0 : Byte) &&& 0x0F = 0)
  scanline := ⟨by simp [State.launch], by simp [State.launch]⟩
  screen := State.launch_screenShaped p image
  stepLocal := rfl

/-- Settles O57: all clauses are fields of the launch state but the framebuffer's bytes. -/
theorem powerOnState : Obligations.PowerOnState := by
  intro p image
  exact ⟨rfl, rfl, rfl, rfl, rfl, rfl, rfl, rfl, rfl, rfl, rfl, rfl, rfl, rfl, rfl, rfl, rfl, rfl, rfl, fun _ => rfl,
    fun n _ => State.launch_fbByte p image n, rfl, rfl⟩

/-- Settles O58: the empty memory of State.reset is canonical. -/
theorem powerOnMeetsTheInvariant : Obligations.PowerOnMeetsTheInvariant :=
  ⟨fun p _ himage => State.launch_invariant p himage, State.launch_invariant defaultParams State.reset_mem_wf⟩

end Sys2Proof.Machine
end

section
/-! PROOFS. MemRead and MemWrite (20_memory.md R54, R55): every address is closed, a collaborator's or plain,
and each primitive has one equation per case. -/

namespace Sys2Proof.Machine

open Sys2Proof.Spec

/-- The three kinds of address of 20_memory.md R54 and R55. -/
theorem State.access_cases (s : State) (x : Word) :
    s.blocked x = true ∨ (s.blocked x = false ∧ x ∈ s.params.deviceAddrs) ∨ plain s x := by
  unfold plain
  by_cases hx : x ∈ s.params.deviceAddrs <;> cases s.blocked x <;> simp [hx]

theorem State.memRead_of_blocked {s : State} {x : Word} (h : s.blocked x = true) : s.memRead x = (0xFF, s) := by
  simp [State.memRead, h, sentinel]

theorem State.memRead_of_device {s : State} {x : Word} (hb : s.blocked x = false) (hx : x ∈ s.params.deviceAddrs) :
    s.memRead x =
      (Config.deviceRead x s.history,
        { s with history := s.history ++ [.read x (Config.deviceRead x s.history)] }) := by
  simp [State.memRead, State.isDevice, hb, hx]

theorem State.memRead_of_plain {s : State} {x : Word} (h : plain s x) : s.memRead x = (s.peek x, s) := by
  simp [State.memRead, State.isDevice, h.1, h.2]

theorem State.memWrite_of_blocked {s : State} {x : Word} (h : s.blocked x = true) (v : Byte) : s.memWrite x v = s := by
  simp [State.memWrite, h]

theorem State.memWrite_of_device {s : State} {x : Word} (hb : s.blocked x = false) (hx : x ∈ s.params.deviceAddrs)
    (v : Byte) : s.memWrite x v = { s with history := s.history ++ [.write x v] } := by
  simp [State.memWrite, State.isDevice, hb, hx]

theorem State.memWrite_of_plain {s : State} {x : Word} (h : plain s x) (v : Byte) : s.memWrite x v = s.poke x v := by
  simp [State.memWrite, State.isDevice, h.1, h.2]

theorem Mode.closesGate_eq (m : Mode) : m.closesGate = (m == .oamSearch || m == .pixelTransfer) := by
  cases m <;> rfl

theorem State.peek_poke {s : State} (hs : s.memoryCanonical) (x y : Word) (v : Byte) :
    (s.poke x v).peek y = if y = x then v else s.peek y := by
  split
  · next h => rw [h, State.peek_poke_same hs]
  · next h => exact State.peek_poke_other h s v

/-- Settles O34: the gate's ranges and modes are those of its definition, and MemRead is read off the three
kinds of address. -/
theorem readsPassTheGateAndTheDevicePort : Obligations.ReadsPassTheGateAndTheDevicePort := by
  refine ⟨fun s x => ?_, fun s x => ?_, fun s x => ?_⟩
  · simp [State.blocked, gated, Mode.closesGate_eq, BitVec.le_def]
  · rcases s.access_cases x with h | ⟨hb, hx⟩ | h
    · rw [State.memRead_of_blocked h, if_pos h]
    · simp [State.memRead_of_device hb hx, hb, hx]
    · simp [State.memRead_of_plain h, h.1, h.2]
  · exact Prod.ext (wordOf_eq_append _ _) rfl

/-- Settles O35: MemWrite is read off the three kinds of address. -/
theorem writesPassTheGateAndTheDevicePort : Obligations.WritesPassTheGateAndTheDevicePort := by
  refine ⟨fun s x v => ?_, fun s x v => ?_⟩
  · rcases s.access_cases x with h | ⟨hb, hx⟩ | h
    · rw [State.memWrite_of_blocked h, if_pos h]
    · simp [State.memWrite_of_device hb hx, hb, hx]
    · simp [State.memWrite_of_plain h, h.1, h.2, State.poke]
  · rw [State.memWrite16, loByte_eq_low, hiByte_eq_high]

/-- Settles O36: a plain write pokes the flat array, which keeps the address plain, and the canonical form
gives the byte back. -/
theorem readReturnsTheLastWrite : Obligations.ReadReturnsTheLastWrite := by
  intro s x v hs hx
  have hafter : plain (s.poke x v) x := hx
  rw [State.memWrite_of_plain hx, State.memRead_of_plain hafter, State.peek_poke_same hs]
  exact ⟨rfl, fun y => State.peek_poke hs x y v⟩

end Sys2Proof.Machine
end

section
/-! PROOFS. Memory through an instruction: the bytes it stores to (20_memory.md R62) and, while the gate is
closed, the bytes it neither writes nor learns (R52, R53). Each form has one lemma for both; exec_memory reads the
forms off the dispatch. -/

namespace Sys2Proof.Machine

open Sys2Proof.Spec

/-- The value g of a state does not depend on its memory. -/
def MemoryFree {α : Type} (g : State → α) : Prop :=
  ∀ (s : State) (m : Memory), g { s with mem := m } = g s

/-- The update f neither reads nor writes memory or the PPU's mode. -/
def MemoryBlind (f : State → State) : Prop :=
  ∀ (s : State) (m : Memory), f { s with mem := m } = { f s with mem := m, mode := s.mode }

theorem MemoryBlind.mem {f : State → State} (hf : MemoryBlind f) (s : State) : (f s).mem = s.mem :=
  (congrArg State.mem (hf s s.mem) :)

theorem MemoryBlind.mode {f : State → State} (hf : MemoryBlind f) (s : State) : (f s).mode = s.mode :=
  (congrArg State.mode (hf s s.mem) :)

theorem MemoryBlind.peek {f : State → State} (hf : MemoryBlind f) (s : State) (x : Word) :
    (f s).peek x = s.peek x := by
  rw [State.peek, hf.mem, State.peek]

/-- Two states of canonical memory that differ at most in bytes the closed gate keeps from the CPU. -/
structure Isolated (s t : State) : Prop where
  canonical_left : s.memoryCanonical
  canonical_right : t.memoryCanonical
  closed : s.mode.closesGate = true
  same : SameOutsideGate s t

namespace Isolated

variable {s t : State}

/-- What does not depend on memory is the same in both states. -/
theorem read {α : Type} (h : Isolated s t) (g : State → α) (hg : MemoryFree g) : g t = g s :=
  (congrArg g h.same.1).trans (hg s t.mem)

theorem update (h : Isolated s t) {f : State → State} (hf : MemoryBlind f) : Isolated (f s) (f t) where
  canonical_left := by rw [State.memoryCanonical, hf.mem]; exact h.canonical_left
  canonical_right := by rw [State.memoryCanonical, hf.mem]; exact h.canonical_right
  closed := by rw [hf.mode]; exact h.closed
  same := by
    refine ⟨?_, fun x hx => ?_⟩
    · calc f t = f { s with mem := t.mem } := congrArg f h.same.1
        _ = { f s with mem := (f t).mem } := by rw [hf, hf.mem, ← hf.mode]
    · rw [hf.peek, hf.peek]
      exact h.same.2 x hx

theorem blocked_eq (h : Isolated s t) (x : Word) : t.blocked x = s.blocked x :=
  h.read (fun u => u.blocked x) fun _ _ => rfl

theorem params_eq (h : Isolated s t) : t.params = s.params := h.read State.params fun _ _ => rfl

theorem plain_eq (h : Isolated s t) (x : Word) : plain t x = plain s x :=
  h.read (fun u => plain u x) fun _ _ => rfl

/-- Behind a closed gate a plain address is not a gated one. -/
theorem peek_of_plain (h : Isolated s t) {x : Word} (hx : plain s x) : t.peek x = s.peek x :=
  h.same.2 x (by simpa [State.blocked, h.closed] using hx.1)

theorem poke (h : Isolated s t) (x : Word) (v : Byte) : Isolated (s.poke x v) (t.poke x v) where
  canonical_left := State.poke_wf h.canonical_left x v
  canonical_right := State.poke_wf h.canonical_right x v
  closed := h.closed
  same := by
    refine ⟨congrArg (fun u : State => { u with mem := t.mem.write x.toNat v }) h.same.1, fun y hy => ?_⟩
    rw [State.peek_poke h.canonical_right, State.peek_poke h.canonical_left, h.same.2 y hy]

/-- MemRead answers the same byte in both states. -/
theorem memRead (h : Isolated s t) (x : Word) :
    (t.memRead x).1 = (s.memRead x).1 ∧ Isolated (s.memRead x).2 (t.memRead x).2 := by
  rcases s.access_cases x with hx | ⟨hb, hx⟩ | hx
  · rw [State.memRead_of_blocked hx, State.memRead_of_blocked ((h.blocked_eq x).trans hx)]
    exact ⟨rfl, h⟩
  · rw [State.memRead_of_device hb hx, State.memRead_of_device ((h.blocked_eq x).trans hb) (h.params_eq ▸ hx)]
    exact ⟨h.read (fun u => Config.deviceRead x u.history) fun _ _ => rfl,
      h.update (f := fun u => { u with history := u.history ++ [.read x (Config.deviceRead x u.history)] })
        fun _ _ => rfl⟩
  · rw [State.memRead_of_plain hx, State.memRead_of_plain ((h.plain_eq x).mpr hx)]
    exact ⟨h.peek_of_plain hx, h⟩

theorem memWrite (h : Isolated s t) (x : Word) (v : Byte) : Isolated (s.memWrite x v) (t.memWrite x v) := by
  rcases s.access_cases x with hx | ⟨hb, hx⟩ | hx
  · rw [State.memWrite_of_blocked hx, State.memWrite_of_blocked ((h.blocked_eq x).trans hx)]
    exact h
  · rw [State.memWrite_of_device hb hx, State.memWrite_of_device ((h.blocked_eq x).trans hb) (h.params_eq ▸ hx)]
    exact h.update (f := fun u => { u with history := u.history ++ [.write x v] }) fun _ _ => rfl
  · rw [State.memWrite_of_plain hx, State.memWrite_of_plain ((h.plain_eq x).mpr hx)]
    exact h.poke x v

theorem push16 (h : Isolated s t) (v : Word) : Isolated (s.push16 v) (t.push16 v) := by
  have hsp : t.sp = s.sp := h.read State.sp fun _ _ => rfl
  have hwritten := (h.memWrite (s.sp - 1) (hiByte v)).memWrite (s.sp - 2) (loByte v)
  rw [State.push16, State.push16, hsp]
  exact hwritten.update (f := fun u => { u with sp := s.sp - 2 }) fun _ _ => rfl

/-- pop16 answers the same word in both states. -/
theorem pop16 (h : Isolated s t) : t.pop16.1 = s.pop16.1 ∧ Isolated s.pop16.2 t.pop16.2 := by
  have hsp : t.sp = s.sp := h.read State.sp fun _ _ => rfl
  obtain ⟨hlo, hfirst⟩ := h.memRead s.sp
  obtain ⟨hhi, hsecond⟩ := hfirst.memRead (s.sp + 1)
  simp only [State.pop16, hsp, hlo, hhi]
  exact ⟨trivial, hsecond.update (f := fun u => { u with sp := s.sp + 2 }) fun _ _ => rfl⟩

theorem src8 (h : Isolated s t) (src : Src8) :
    (t.src8 src).1 = (s.src8 src).1 ∧ Isolated (s.src8 src).2 (t.src8 src).2 := by
  cases src with
  | reg r => exact ⟨h.read (fun u => u.reg8 r) fun _ _ => by cases r <;> rfl, h⟩
  | atHl =>
    rw [State.src8, State.src8, h.read State.hl fun _ _ => rfl]
    exact h.memRead s.hl
  | imm => exact ⟨rfl, h⟩

end Isolated

theorem State.peek_push16_of_notMem (s : State) (v : Word) {x : Word} (hx : x ∉ [s.sp - 1, s.sp - 2]) :
    (s.push16 v).peek x = s.peek x := by
  obtain ⟨hhi, hlo⟩ : x ≠ s.sp - 1 ∧ x ≠ s.sp - 2 := by simpa using hx
  exact State.peek_push16_other s v hhi hlo

/-- What the effect body of an instruction that stores to the addresses stored does to memory. -/
structure MemoryEffect (stored : State → List Word) (body : State → State) : Prop where
  isolated : ∀ {s t : State}, Isolated s t → Isolated (body s) (body t)
  kept : ∀ (s : State) (x : Word), x ∉ stored s → (body s).peek x = s.peek x

theorem MemoryBlind.effect {stored : State → List Word} {f : State → State} (hf : MemoryBlind f) :
    MemoryEffect stored f :=
  ⟨fun h => h.update hf, fun s x _ => hf.peek s x⟩

/-! The forms that access memory. -/

section
variable {stored : State → List Word} {address : State → Word} {value : State → Byte}

theorem loadFrom_memory {dst : Reg8} (ha : MemoryFree address) :
    MemoryEffect stored (loadFrom dst address) where
  isolated {s t} h := by
    obtain ⟨hv, hread⟩ := h.memRead (address s)
    simp only [loadFrom, h.read address ha, hv]
    exact hread.update (f := fun u => u.setReg8 dst (s.memRead (address s)).1) fun _ _ => by cases dst <;> rfl
  kept s x _ := by simp [loadFrom, State.peek]

theorem storeTo_memory (ha : MemoryFree address) (hv : MemoryFree value) :
    MemoryEffect (fun s => [address s]) (storeTo address value) where
  isolated {s t} h := by
    rw [storeTo, storeTo, h.read address ha, h.read value hv]
    exact h.memWrite _ _
  kept s x hx := State.peek_memWrite_other (by simpa using hx) s _

theorem storeThenStepHl_memory {delta : Word} : MemoryEffect (fun s => [s.hl]) (storeThenStepHl delta) where
  isolated {s t} h := by
    rw [storeThenStepHl, storeThenStepHl, h.read State.hl fun _ _ => rfl, h.read State.a fun _ _ => rfl]
    exact (h.memWrite s.hl s.a).update (f := fun u => u.setHl (s.hl + delta)) fun _ _ => rfl
  kept s x hx := State.peek_memWrite_other (by simpa using hx) s _

theorem loadThenStepHl_memory {delta : Word} : MemoryEffect stored (loadThenStepHl delta) where
  isolated {s t} h := by
    obtain ⟨hv, hread⟩ := h.memRead s.hl
    simp only [loadThenStepHl, h.read State.hl fun _ _ => rfl, hv]
    exact hread.update (f := fun u => { u with a := (s.memRead s.hl).1 }.setHl (s.hl + delta)) fun _ _ => rfl
  kept s x _ := State.peek_memRead s s.hl x

theorem storeSp_memory {a : Word} : MemoryEffect (fun _ => [a, a + 1]) (storeSp a) where
  isolated {s t} h := by
    simp only [storeSp, State.memWrite16, h.read State.sp fun _ _ => rfl]
    exact (h.memWrite a (loByte s.sp)).memWrite (a + 1) (hiByte s.sp)
  kept s x hx := by
    obtain ⟨hlo, hhi⟩ : x ≠ a ∧ x ≠ a + 1 := by simpa using hx
    exact (State.peek_memWrite_other hhi _ _).trans (State.peek_memWrite_other hlo s _)

theorem accumulate_memory {op : AluOp} {src : Src8} : MemoryEffect stored (accumulate op src) where
  isolated {s t} h := by
    obtain ⟨hv, hread⟩ := h.src8 src
    simp only [accumulate, hv]
    exact hread.update (f := fun u =>
      { u with a := (aluApply op u.a (s.src8 src).1 u.flags).1 }.setFlags
        (aluApply op u.a (s.src8 src).1 u.flags).2) fun _ _ => rfl
  kept s x _ := by
    cases src with
    | reg | imm => rfl
    | atHl => exact State.peek_memRead s s.hl x

/-- INC (HL) and DEC (HL): the byte at HL is read, then written with its new value. -/
theorem modifyAtHl_memory {op : Byte → Flags → Byte × Flags} :
    MemoryEffect (fun s => [s.hl]) fun s =>
      ((s.memRead s.hl).2.memWrite s.hl (op (s.memRead s.hl).1 s.flags).1).setFlags
        (op (s.memRead s.hl).1 s.flags).2 where
  isolated {s t} h := by
    obtain ⟨hv, hread⟩ := h.memRead s.hl
    rw [h.read State.hl fun _ _ => rfl, h.read State.flags fun _ _ => rfl, hv]
    exact (hread.memWrite s.hl _).update (f := fun u => u.setFlags (op (s.memRead s.hl).1 s.flags).2) fun _ _ => rfl
  kept s x hx := (State.peek_memWrite_other (by simpa using hx) _ _).trans (State.peek_memRead s s.hl x)

theorem pushPair_memory {r : Reg16Stk} : MemoryEffect (fun s => [s.sp - 1, s.sp - 2]) (pushPair r) where
  isolated {s t} h := by
    rw [pushPair, pushPair, h.read (fun u => u.regStk r) fun _ _ => by cases r <;> rfl]
    exact h.push16 _
  kept s _ hx := State.peek_push16_of_notMem s _ hx

theorem popPair_memory {r : Reg16Stk} : MemoryEffect stored (popPair r) where
  isolated {s t} h := by
    obtain ⟨hv, hpop⟩ := h.pop16
    simp only [popPair, hv]
    exact hpop.update (f := fun u => u.setRegStk r s.pop16.1) fun _ _ => by cases r <;> rfl
  kept s x _ := by simp [popPair, State.peek]

theorem callTo_memory {size target : Word} :
    MemoryEffect (fun s => [s.sp - 1, s.sp - 2]) (callTo size target) where
  isolated {s t} h := by
    rw [callTo, callTo, h.read State.pc fun _ _ => rfl]
    exact (h.push16 _).update (f := fun u => u.jumpTo target) fun _ _ => rfl
  kept s _ hx := State.peek_push16_of_notMem s _ hx

theorem returnFromCall_memory : MemoryEffect stored returnFromCall where
  isolated {s t} h := by
    obtain ⟨hv, hpop⟩ := h.pop16
    simp only [returnFromCall, hv]
    exact hpop.update (f := fun u => u.jumpTo s.pop16.1) fun _ _ => rfl
  kept s x _ := by simp [returnFromCall, State.peek]

theorem returnFromInterrupt_memory : MemoryEffect stored State.returnFromInterrupt where
  isolated h := (returnFromCall_memory (stored := stored).isolated h).update
    (f := fun u => { u with ime := u.prevIme, prevIme := u.ime }) fun _ _ => rfl
  kept := returnFromCall_memory.kept

theorem condHolds_flags (cc : Cond) (s : State) : condHolds cc s.flags = holds cc s := by
  cases cc <;> rfl

/-- A conditional form stores to what its body does where the condition holds. -/
theorem when_memory {cc : Cond} {body : State → State} {taken : State → List Word} (hbody : MemoryEffect taken body)
    (hstored : ∀ s, holds cc s = true → stored s = taken s) : MemoryEffect stored (when cc body) where
  isolated {s t} h := by
    rw [when, when, h.read State.flags fun _ _ => rfl]
    split
    · exact hbody.isolated h
    · exact h
  kept s x hx := by
    rw [when, condHolds_flags]
    split
    · next hcc => exact hbody.kept s x (hstored s hcc ▸ hx)
    · rfl

end

/-! The instruction. -/

/-- What an instruction that stores to the addresses stored and has the meaning run does to memory. -/
structure MemoryOutcome (stored : State → List Word) (run : State → StepResult) : Prop where
  isolated : ∀ {s t : State}, Isolated s t → ∃ u v, run s = .next u ∧ run t = .next v ∧ Isolated u v
  kept : ∀ {s t : State}, run s = .next t → ∀ x : Word, x ∉ stored s → t.peek x = s.peek x

/-- The addresses do not depend on pc_written, which is cleared first. -/
theorem stores_stepLocal (i : Instr) (s : State) (b : Bool) : stores i { s with pcWritten := b } = stores i s := by
  cases i <;> rfl

theorem complete_memory {i : Instr} {body : State → State} (hbody : MemoryEffect (stores i) body) :
    MemoryOutcome (stores i) (complete i body) where
  isolated h := ⟨_, _, rfl, rfl,
    (hbody.isolated (h.update (f := fun u => { u with pcWritten := false }) fun _ _ => rfl)).update
      (f := retire i) fun _ _ => rfl⟩
  kept {s t} hrun x hx := by
    cases hrun
    exact hbody.kept { s with pcWritten := false } x (by rwa [stores_stepLocal])

theorem unimplemented_memory {i : Instr} : MemoryOutcome (stores i) (unimplemented i) where
  isolated h := ⟨_, _, rfl, rfl,
    h.update (f := fun u => u.raiseFault .unimplementedOpcode i.opcode u.pc) fun _ _ => rfl⟩
  kept hrun _ _ := by
    cases hrun
    rfl

theorem haltOrStop_memory {i : Instr} : MemoryOutcome (stores i) (haltOrStop i) where
  isolated {s t} h := by
    unfold haltOrStop
    rw [h.params_eq]
    cases s.params.haltStop with
    | fault => exact unimplemented_memory.isolated h
    | nop => exact (complete_memory (MemoryBlind.effect fun _ _ => rfl)).isolated h
  kept {s t} hrun := by
    unfold haltOrStop at hrun
    cases hpolicy : s.params.haltStop with
    | fault =>
      rw [hpolicy] at hrun
      exact unimplemented_memory.kept hrun
    | nop =>
      rw [hpolicy] at hrun
      exact (complete_memory (MemoryBlind.effect fun _ _ => rfl)).kept hrun

/-- The instructions under the last case touch registers only. -/
theorem exec_memory (i : Instr) : MemoryOutcome (stores i) (exec i) := by
  cases i with
  | ldAAtBc | ldAAtDe | ldBAtHl | ldCAtHl | ldDAtHl | ldEAtHl | ldHAtHl | ldLAtHl | ldAAtHl | ldhAAtA8 _
    | ldAAtC | ldAAtA16 _ =>
    exact complete_memory (loadFrom_memory fun _ _ => rfl)
  | ldAtBcA | ldAtDeA | ldAtHlN8 _ | ldAtHlB | ldAtHlC | ldAtHlD | ldAtHlE | ldAtHlH | ldAtHlL | ldAtHlA
    | ldhAtA8A _ | ldAtCA | ldAtA16A _ =>
    exact complete_memory (storeTo_memory (fun _ _ => rfl) fun _ _ => rfl)
  | ldAtA16Sp _ => exact complete_memory storeSp_memory
  | ldAtHlIncA | ldAtHlDecA => exact complete_memory storeThenStepHl_memory
  | ldAAtHlInc | ldAAtHlDec => exact complete_memory loadThenStepHl_memory
  | pushBc | pushDe | pushHl | pushAf => exact complete_memory pushPair_memory
  | popBc | popDe | popHl | popAf => exact complete_memory popPair_memory
  | addAAtHl | adcAAtHl | subAtHl | sbcAAtHl | andAtHl | xorAtHl | orAtHl | cpAtHl =>
    exact complete_memory accumulate_memory
  | incAtHl => exact complete_memory (modifyAtHl_memory (op := incFlags))
  | decAtHl => exact complete_memory (modifyAtHl_memory (op := decFlags))
  | rst00 | callA16 _ | rst08 | rst10 | rst18 | rst20 | rst28 | rst30 | rst38 => exact complete_memory callTo_memory
  | ret => exact complete_memory returnFromCall_memory
  | reti => exact complete_memory returnFromInterrupt_memory
  | jrNzE8 _ | jrZE8 _ | jrNcE8 _ | jrCE8 _ | jpNzA16 _ | jpZA16 _ | jpNcA16 _ | jpCA16 _ =>
    exact complete_memory (when_memory (MemoryBlind.effect fun _ _ => rfl) fun _ _ => rfl)
  | callNzA16 _ | callZA16 _ | callNcA16 _ | callCA16 _ =>
    exact complete_memory (when_memory callTo_memory fun _ hcc => if_pos hcc)
  | retNz | retZ | retNc | retC =>
    exact complete_memory (when_memory returnFromCall_memory fun _ _ => rfl)
  | stop _ | halt => exact haltOrStop_memory
  | prefixCb | illegalD3 | illegalDB | illegalDD | illegalE3 | illegalE4 | illegalEB | illegalEC | illegalED
    | illegalF4 | illegalFC | illegalFD =>
    exact unimplemented_memory
  | _ => exact complete_memory (MemoryBlind.effect fun _ _ => rfl)

/-- Settles O39 by exec_memory. -/
theorem memoryOutsideTheStoredBytesIsKept : Obligations.MemoryOutsideTheStoredBytesIsKept :=
  fun i _ _ h => (exec_memory i).kept h

/-- Settles O40: exec_memory keeps the two states isolated from the gated bytes, and no effect of an instruction
reaches such a byte (exec_cpuEffect). -/
theorem theClosedGateIsolates : Obligations.TheClosedGateIsolates := by
  intro i s t hs ht hclosed hsame
  have h : Isolated s t := ⟨hs, ht, hclosed, hsame⟩
  obtain ⟨u, v, hu, hv, huv⟩ := (exec_memory i).isolated h
  refine ⟨u, v, hu, hv, huv.same, fun x hx => ?_⟩
  have hblocked : s.blocked x = true := by simp [State.blocked, hx, hclosed]
  exact ⟨(exec_cpuEffect hu).gate x hblocked, (exec_cpuEffect hv).gate x ((h.blocked_eq x).trans hblocked)⟩

end Sys2Proof.Machine
end

section
/-! PROOFS. Bytes and instructions (30_encoding.md R72, R77, R78): decode and encode are inverses of each other. -/

namespace Sys2Proof

theorem encode_eq_opcode_cons (i : Instr) : encode i = i.opcode :: (encode i).tail := by
  have hlen := encode_length i
  rw [Instr.opcode]
  cases hbytes : encode i with
  | nil => rw [hbytes, List.length_nil] at hlen; omega
  | cons op rest => rfl

theorem decode_word {op : Byte} {i : Word → Instr} {rest : List Byte}
    (h : ∀ b1 b2, decode (op :: b1 :: b2 :: rest) = .ok (i (wordOf b2 b1), rest)) (n : Word) :
    decode (op :: loByte n :: hiByte n :: rest) = .ok (i n, rest) := by
  rw [h, wordOf_hiByte_loByte]

/-- Decoding gives an encoded instruction back; those with a word operand put it together from its bytes. -/
theorem decode_encode (i : Instr) (rest : List Byte) : decode (encode i ++ rest) = .ok (i, rest) := by
  cases i with
  | ldBcN16 n | ldAtA16Sp n | ldDeN16 n | ldHlN16 n | ldSpN16 n | jpNzA16 n | jpA16 n | callNzA16 n | jpZA16 n
    | callZA16 n | callA16 n | jpNcA16 n | callNcA16 n | jpCA16 n | callCA16 n | ldAtA16A n | ldAAtA16 n =>
    exact decode_word (fun _ _ => rfl) n
  | _ => rfl

theorem decode_stop (n : Byte) (rest : List Byte) : decode (0x10 :: n :: rest) = .ok (.stop n, rest) :=
  rfl

theorem immediateCount_le (op : Byte) : immediateCount op ≤ 2 := by
  revert op
  decide

/-- The grid of 30_encoding.md R78, entry by entry: the word of an I16 entry is put together and taken apart. -/
theorem encode_decodeOp_wordOf (op b1 b2 : Byte) :
    encode (decodeOp op b1 b2) =
      op :: match immediateCount op with
        | 0 => []
        | 1 => [b1]
        | _ => [loByte (wordOf b2 b1), hiByte (wordOf b2 b1)] := by
  obtain ⟨n, hn, rfl⟩ : ∃ n < 256, op = BitVec.ofNat 8 n := ⟨op.toNat, op.isLt, by simp⟩
  interval_cases n <;> rfl

theorem encode_decodeOp (op b1 b2 : Byte) :
    encode (decodeOp op b1 b2) = op :: [b1, b2].take (immediateCount op) := by
  have hle := immediateCount_le op
  rw [encode_decodeOp_wordOf]
  interval_cases immediateCount op <;> simp

/-- Bytes that decode begin with the instruction's encoding. -/
theorem encode_of_decode {bytes rest : List Byte} {i : Instr} (h : decode bytes = .ok (i, rest)) :
    bytes = encode i ++ rest := by
  unfold decode at h
  split at h
  · cases h
  · split at h
    case h_4 => cases h
    all_goals
      next hcount =>
      cases h
      simp [encode_decodeOp, hcount]

end Sys2Proof
end

section
/-! PROOFS. The fetch (30_encoding.md R87, R89): it reads exactly the bytes of its instruction, and a step runs what
it fetched. -/

namespace Sys2Proof.Machine

open Sys2Proof.Spec

/-! The bytes a fetch reads. -/

/-- All immediates of an opcode are read, but STOP's under the FAULT policy. -/
theorem immediatesRead_eq {p : Params} {op : Byte} (hstop : ¬ (op = 0x10 ∧ p.haltStop = .fault)) :
    immediatesRead p op = immediateCount op := by
  unfold immediatesRead
  split
  · next hfaults =>
    simp only [faults, Bool.or_eq_true, Bool.and_eq_true, beq_iff_eq, Option.isNone_iff_eq_none] at hfaults
    rcases hfaults with hnone | ⟨rfl | rfl, hpolicy⟩
    · simp [immediateCount, hnone]
    · rfl
    · exact absurd ⟨rfl, hpolicy⟩ hstop
  · rfl

/-- Where MemRead gives the encoding of an instruction from PC on, the fetch answers the instruction. -/
theorem fetch_of_fetchBytes {s u : State} {i : Instr} (hstop : ¬ (i.opcode = 0x10 ∧ s.params.haltStop = .fault))
    (h : fetchBytes (encode i).length s.pc s = (encode i, u)) : fetch s = (i, u) := by
  have hdecode := decode_encode i []
  have hle := immediateCount_le i.opcode
  have hread := immediatesRead_eq hstop
  rw [encode_length, Nat.add_comm, fetchBytes] at h
  obtain ⟨hbytes, rfl⟩ := Prod.mk.inj h
  rw [List.append_nil, ← hbytes] at hdecode
  have hop : (s.memRead s.pc).1 = i.opcode := List.head_eq_of_cons_eq (hbytes.trans (encode_eq_opcode_cons i))
  simp only [fetch, hop, hread]
  simp only [hop, decode] at hdecode
  interval_cases immediateCount i.opcode <;>
    exact Prod.ext (by simpa [fetchBytes, State.memRead16] using hdecode) rfl

theorem fetchBytes_of_plain {s : State} {n : Nat} {x : Word} (h : ∀ k < n, plain s (x + BitVec.ofNat 16 k)) :
    fetchBytes n x s = ((List.range n).map fun k => s.peek (x + BitVec.ofNat 16 k), s) := by
  induction n generalizing x with
  | zero => rfl
  | succ n ih =>
    have hfirst : plain s x := by simpa using h 0 (Nat.succ_pos n)
    have hnext : ∀ k, x + 1 + BitVec.ofNat 16 k = x + BitVec.ofNat 16 (k + 1) := by
      intro k
      rw [BitVec.add_assoc, Nat.add_comm, BitVec.ofNat_add]
      rfl
    have hrest := ih (x := x + 1) fun k hk => hnext k ▸ h (k + 1) (Nat.succ_lt_succ hk)
    simp only [fetchBytes, State.memRead_of_plain hfirst, hrest, hnext, List.range_succ_eq_map, List.map_cons,
      List.map_map]
    simp [Function.comp_def]

/-- The bytes at PC that decode are those a fetch of plain memory reads. -/
theorem fetchBytes_of_decode {s : State} {i : Instr} {rest : List Byte}
    (hdecode : decode [s.peek s.pc, s.peek (s.pc + 1), s.peek (s.pc + 2)] = .ok (i, rest))
    (hplain : ∀ k < (encode i).length, plain s (s.pc + BitVec.ofNat 16 k)) :
    fetchBytes (encode i).length s.pc s = (encode i, s) := by
  have hbytes := encode_of_decode hdecode
  have hle : (encode i).length ≤ 3 := by
    have hlength := congrArg List.length hbytes
    simp only [List.length_append, List.length_cons, List.length_nil] at hlength
    omega
  have hpeeks : [s.peek s.pc, s.peek (s.pc + 1), s.peek (s.pc + 2)] =
      (List.range 3).map fun k => s.peek (s.pc + BitVec.ofNat 16 k) := by simp [List.range_succ]
  rw [fetchBytes_of_plain hplain, Prod.mk.injEq]
  refine ⟨?_, rfl⟩
  calc (List.range (encode i).length).map (fun k => s.peek (s.pc + BitVec.ofNat 16 k))
      = [s.peek s.pc, s.peek (s.pc + 1), s.peek (s.pc + 2)].take (encode i).length := by
        rw [hpeeks, ← List.map_take, List.take_range, Nat.min_eq_left hle]
    _ = encode i := by rw [hbytes, List.take_left]

/-! The step. -/

theorem step_of_fetch {s t u : State} {i : Instr} (hfault : s.fault = none) (hfetch : fetch s = (i, u))
    (hexec : exec i u = .next t) : step s = .next (t.finishIteration i) := by
  simp [step, hfault, hfetch, hexec]

theorem exec_stop_of_fault {s : State} (h : s.params.haltStop = .fault) (n : Byte) :
    exec (.stop n) s = .next (s.raiseFault .unimplementedOpcode 0x10 s.pc) := by
  change haltOrStop (.stop n) s = _
  rw [haltOrStop, h]
  rfl

/-- A step runs the instruction whose encoding MemRead gives from PC on. -/
theorem step_of_fetchBytes {s t u : State} {i : Instr} (hfault : s.fault = none)
    (hstop : ¬ (i.opcode = 0x10 ∧ s.params.haltStop = .fault))
    (hbytes : fetchBytes (encode i).length s.pc s = (encode i, u)) (hexec : exec i u = .next t) :
    step s = .next (iterationEnd i t) :=
  step_of_fetch hfault (fetch_of_fetchBytes hstop hbytes) hexec

/-- STOP under the FAULT policy: its second byte is not read, and it faults whatever that byte is. -/
theorem step_stop_of_fault {s : State} (hfault : s.fault = none) (hpolicy : s.params.haltStop = .fault)
    (hplain : plain s s.pc) (hop : s.peek s.pc = 0x10) :
    step s = .next (s.raiseFault .unimplementedOpcode 0x10 s.pc) := by
  have hfetch : fetch s = (.stop 0, s) := by
    have hread : immediatesRead s.params 0x10 = 0 := by simp [immediatesRead, faults, hpolicy]
    simp only [fetch, State.memRead_of_plain hplain, hop, hread]
    rfl
  exact step_of_fetch hfault hfetch (exec_stop_of_fault hpolicy 0)

/-- Settles O41: STOP under the FAULT policy apart, plain bytes at PC that decode are what MemRead gives, so the
first clause follows from step_of_fetchBytes as the second does. -/
theorem stepRunsTheDecodedInstruction : Obligations.StepRunsTheDecodedInstruction := by
  refine ⟨fun s t i rest hfault hdecode hplain hexec => ?_, fun s t i hfault hstop hbytes hexec => ?_⟩
  · by_cases hstop : i.opcode = 0x10 ∧ s.params.haltStop = .fault
    · obtain ⟨hop, hpolicy⟩ := hstop
      have hplainPc : plain s s.pc := by simpa using hplain 0 (by simp [encode_length])
      have hpc : s.peek s.pc = 0x10 := by
        have hbytes := encode_of_decode hdecode
        rw [encode_eq_opcode_cons, hop] at hbytes
        exact List.head_eq_of_cons_eq hbytes
      have hi : i = .stop (s.peek (s.pc + 1)) := by
        rw [hpc, decode_stop] at hdecode
        exact (Prod.mk.inj (Except.ok.inj hdecode)).1.symm
      rw [hi, exec_stop_of_fault hpolicy] at hexec
      cases hexec
      exact step_stop_of_fault hfault hpolicy hplainPc hpc
    · exact step_of_fetchBytes hfault hstop (fetchBytes_of_decode hdecode hplain) hexec
  · exact step_of_fetchBytes hfault hstop (Prod.ext hbytes rfl) hexec

/-- Settles O42: the sentinel 0xFF is the encoding of RST 38H. -/
theorem fetchFromAClosedAddressRestarts : Obligations.FetchFromAClosedAddressRestarts := by
  intro s hfault hblocked
  have hbytes : fetchBytes (encode .rst38).length s.pc s = (encode .rst38, s) := by
    simp [fetchBytes, encode, State.memRead_of_blocked hblocked]
  exact ⟨_, rfl, rfl, step_of_fetchBytes hfault (fun h => absurd h.1 (by decide)) hbytes rfl⟩

end Sys2Proof.Machine
end

section
/-! PROOFS. Decode and encode (30_encoding.md R72, R77, R78): the round trip in both directions, every opcode
byte with its operands, and the sample words. -/

namespace Sys2Proof

/-- Settles O1 by decode_encode. -/
theorem decodeOfEncodeIsIdentity : Obligations.DecodeOfEncodeIsIdentity :=
  decode_encode

/-- Settles O2 by encode_of_decode. -/
theorem decodedBytesAreTheEncoding : Obligations.DecodedBytesAreTheEncoding :=
  fun _ _ _ h => encode_of_decode h

/-- Settles O4: the decoder evaluates each word. -/
theorem sampleWordsDecodeAsTheSpecPrints : Obligations.SampleWordsDecodeAsTheSpecPrints :=
  ⟨rfl, rfl, rfl, rfl, rfl, rfl, rfl, rfl⟩

@[simp] theorem opcode_decodeOp (op b1 b2 : Byte) : (decodeOp op b1 b2).opcode = op := by
  rw [Instr.opcode, encode_decodeOp]
  rfl

/-- With two bytes after it, every opcode byte has all its immediates. -/
theorem decode_three_bytes (op b1 b2 : Byte) :
    ∃ i rest, decode [op, b1, b2] = .ok (i, rest) ∧ i.opcode = op := by
  have hcounts : immediateCount op = 0 ∨ immediateCount op = 1 ∨ immediateCount op = 2 := by
    have hle := immediateCount_le op
    omega
  obtain hcount | hcount | hcount := hcounts
  · exact ⟨decodeOp op 0 0, [b1, b2], by simp [decode, hcount], opcode_decodeOp _ _ _⟩
  · exact ⟨decodeOp op b1 0, [b2], by simp [decode, hcount], opcode_decodeOp _ _ _⟩
  · exact ⟨decodeOp op b1 b2, [], by simp [decode, hcount], opcode_decodeOp _ _ _⟩

/-- The bytes without a size are 0xCB and the eleven illegal ones (30_encoding.md R81, R84). -/
theorem opSize_eq_none_iff (op : Byte) :
    opSize op = none ↔ op ∈ [0xD3, 0xDB, 0xDD, 0xE3, 0xE4, 0xEB, 0xEC, 0xED, 0xF4, 0xFC, 0xFD, 0xCB] := by
  revert op
  decide

end Sys2Proof
end

section
/-! PROOFS. Opcodes that fault and opcodes that complete (30_encoding.md R81, R83, R86, R88, R93): the verdict of
exec and the step on a faulting opcode. -/

namespace Sys2Proof.Machine

/-- The opcodes that fault at lookup (30_encoding.md R86). -/
theorem faults_iff (p : Params) (op : Byte) :
    faults p op = true ↔
      op ∈ [0xD3, 0xDB, 0xDD, 0xE3, 0xE4, 0xEB, 0xEC, 0xED, 0xF4, 0xFC, 0xFD, 0xCB] ∨
        (op ∈ [0x10, 0x76] ∧ p.haltStop = .fault) := by
  rw [← opSize_eq_none_iff]
  simp [faults, or_comm]

theorem exec_of_faults {i : Instr} {s : State} (h : faults s.params i.opcode = true) :
    exec i s = .next (s.raiseFault .unimplementedOpcode i.opcode s.pc) := by
  rcases exec_cases i s with ⟨hcompletes, -⟩ | ⟨-, hexec⟩
  · exact absurd (hcompletes.symm.trans h) nofun
  · exact hexec

theorem exec_of_not_faults {i : Instr} {s : State} (h : faults s.params i.opcode = false) :
    ∃ t, exec i s = .next t ∧ t.fault = s.fault ∧ t.cycles = s.cycles + cyclesOf s.params i.opcode := by
  rcases exec_cases i s with ⟨-, body, hexec, hbody⟩ | ⟨hfaults, -⟩
  · have heffect := hbody { s with pcWritten := false }
    exact ⟨_, hexec, heffect.fault, by rw [retire, heffect.cycles, heffect.params]⟩
  · exact absurd (h.symm.trans hfaults) nofun

/-- Settles O3: the byte's instruction raises the fault exactly where faults says so, and completes elsewhere. -/
theorem everyOpcodeByteHasAVerdict : Obligations.EveryOpcodeByteHasAVerdict := by
  intro op b1 b2
  obtain ⟨i, rest, hdecode, hop⟩ := decode_three_bytes op b1 b2
  refine ⟨i, rest, hdecode, hop, fun s => ?_⟩
  subst hop
  split
  · next hlisted => exact exec_of_faults ((faults_iff _ _).mpr hlisted)
  · next hlisted => exact exec_of_not_faults (Bool.eq_false_iff.mpr fun h => hlisted ((faults_iff _ _).mp h))

/-- A fetch of a faulting opcode reads no immediate (30_encoding.md R88). -/
theorem fetch_of_faults {s : State} (h : faults s.params (s.memRead s.pc).1 = true) :
    fetch s = (decodeOp (s.memRead s.pc).1 0 0, (s.memRead s.pc).2) := by
  simp [fetch, immediatesRead, h]

/-- Where the CPU step raised a fault, the iteration ends there (60_exceptions.md R167). -/
theorem State.finishIteration_of_fault {s : State} (h : s.fault ≠ none) (i : Instr) : s.finishIteration i = s := by
  rw [State.finishIteration, if_pos (Option.isSome_iff_ne_none.mpr h)]

/-- Settles O43: of a faulting opcode only the opcode byte is fetched, and the fault ends the iteration. -/
theorem unimplementedOpcodeFaultIsPrecise : Obligations.UnimplementedOpcodeFaultIsPrecise := by
  intro s hfault hlisted
  have hfaults : faults s.params (s.memRead s.pc).1 = true := (faults_iff _ _).mpr hlisted
  have hexec := exec_of_faults (i := decodeOp (s.memRead s.pc).1 0 0) (s := (s.memRead s.pc).2) (by simpa using hfaults)
  rw [step_of_fetch hfault (fetch_of_faults hfaults) hexec, State.finishIteration_of_fault (by simp)]
  simp [State.raiseFault]

end Sys2Proof.Machine
end

section
/-! PROOFS. What a step adds to the cycle counter, and the state no step touches (30_encoding.md R92;
60_exceptions.md R171, R172; 10_state.md R29, R30). -/

namespace Sys2Proof.Machine

/-- The instruction fetched is one of the opcode byte at PC. -/
theorem opcode_fetch (s : State) : (fetch s).1.opcode = (s.memRead s.pc).1 := by
  unfold fetch
  simp only
  split <;> exact opcode_decodeOp _ _ _

/-- What no step touches: halted and stopped (10_state.md R29) and the launch parameters (70_reset_and_hazards.md
R199). -/
def State.fixedState (s : State) : Bool × Bool × Params := (s.halted, s.stopped, s.params)

theorem CpuEffect.fixedState {s t : State} (h : CpuEffect s t) : t.fixedState = s.fixedState := by
  simp only [State.fixedState, h.halted, h.stopped, h.params]

theorem exec_fixedState {i : Instr} {s t : State} (h : exec i s = .next t) : t.fixedState = s.fixedState :=
  (exec_cpuEffect h).fixedState

theorem State.ppuStep_fixedState (s : State) (c : Nat) : (s.ppuStep c).fixedState = s.fixedState := by
  rw [State.ppuStep_eq]
  rfl

theorem State.externalRequests_fixedState (s : State) : s.externalRequests.fixedState = s.fixedState := rfl

theorem State.handleInterrupts_fixedState (s : State) : s.handleInterrupts.fixedState = s.fixedState := by
  rcases s.handleInterrupts_cases with h | ⟨-, -, -, h⟩ | ⟨-, n, -, h⟩ <;> rw [h]
  · rfl
  · rw [State.takeInterrupt_eq]
    rfl

theorem State.finishIteration_fixedState (s : State) (i : Instr) :
    (s.finishIteration i).fixedState = s.fixedState := by
  unfold State.finishIteration
  split
  · rfl
  · rw [State.handleInterrupts_fixedState, State.externalRequests_fixedState, State.ppuStep_fixedState]

/-- The check finds nothing to do: IME is clear or no enabled bit is pending. -/
theorem State.handleInterrupts_of_idle {s : State} (h : ¬ (s.ime = true ∧ s.peek ifAddr &&& s.peek ieAddr ≠ 0)) :
    s.handleInterrupts = s := by
  have hidle : (!s.ime || s.peek ifAddr &&& s.peek ieAddr == 0) = true := by
    simpa [← Decidable.imp_iff_not_or, ← Bool.not_eq_true] using h
  exact if_pos hidle

/-- With IME set and an enabled bit pending, the check faults or dispatches. -/
theorem State.handleInterrupts_of_pending {s : State} (h : s.ime = true ∧ s.peek ifAddr &&& s.peek ieAddr ≠ 0) :
    s.handleInterrupts.fault ≠ none ∨ ∃ n, s.handleInterrupts = s.takeInterrupt n := by
  have hactive : ¬ (!s.ime || s.peek ifAddr &&& s.peek ieAddr == 0) = true := by simpa using h
  rw [State.handleInterrupts, if_neg hactive]
  split
  · exact .inl nofun
  · exact .inr ⟨_, rfl⟩

/-- A check that raises no fault adds DISPATCH_CYCLES exactly where it finds IME set and a pending enabled bit. -/
theorem State.handleInterrupts_cycles {s : State} (h : s.handleInterrupts.fault = none) :
    s.handleInterrupts.cycles = s.cycles +
      (if s.ime = true ∧ s.peek ifAddr &&& s.peek ieAddr ≠ 0 then s.params.dispatchCycles else 0) := by
  split
  · next hpending =>
    rcases State.handleInterrupts_of_pending hpending with hfault | ⟨n, hn⟩
    · exact absurd h hfault
    · rw [hn, State.takeInterrupt_eq]
  · next hidle => rw [State.handleInterrupts_of_idle hidle, Nat.add_zero]

theorem State.ppuStep_cycles (s : State) (c : Nat) : (s.ppuStep c).cycles = s.cycles := by
  rw [State.ppuStep_eq]

theorem State.ppuStep_params (s : State) (c : Nat) : (s.ppuStep c).params = s.params := by
  rw [State.ppuStep_eq]

theorem State.externalRequests_cycles (s : State) : s.externalRequests.cycles = s.cycles := rfl

theorem State.externalRequests_params (s : State) : s.externalRequests.params = s.params := rfl

/-- The PPU step and the requests leave the cycle counter and the parameters to the interrupt check. -/
theorem State.finishIteration_cycles {s : State} {i : Instr} (hs : s.fault = none)
    (h : (s.finishIteration i).fault = none) :
    let checked := (s.ppuStep (cyclesOf s.params i.opcode)).externalRequests
    (s.finishIteration i).cycles = s.cycles +
      (if checked.ime = true ∧ checked.peek ifAddr &&& checked.peek ieAddr ≠ 0 then s.params.dispatchCycles
       else 0) := by
  intro checked
  have hfinish : s.finishIteration i = checked.handleInterrupts := by simp [State.finishIteration, hs, checked]
  have hcycles : checked.cycles = s.cycles := (State.externalRequests_cycles _).trans (s.ppuStep_cycles _)
  have hparams : checked.params = s.params := (State.externalRequests_params _).trans (s.ppuStep_params _)
  rw [hfinish] at h ⊢
  rw [State.handleInterrupts_cycles h, hcycles, hparams]

/-- A CPU step that raises no fault adds its opcode's count. -/
theorem exec_cycles {i : Instr} {s t : State} (h : exec i s = .next t) (hfault : t.fault = none) :
    t.cycles = s.cycles + cyclesOf s.params i.opcode := by
  cases hfaults : faults s.params i.opcode with
  | true =>
    cases h.symm.trans (exec_of_faults hfaults)
    cases hfault
  | false =>
    obtain ⟨u, hu, -, hcycles⟩ := exec_of_not_faults hfaults
    cases h.symm.trans hu
    exact hcycles

/-- Settles O46: the CPU step adds the count, the interrupt check the rest; a CPU step that raised a fault is the end
of its iteration. -/
theorem stepCountsCyclesAndKeepsTheFixedState : Obligations.StepCountsCyclesAndKeepsTheFixedState := by
  intro s t hstep
  obtain ⟨-, u, hexec, rfl⟩ := step_next hstep
  have hfetch := fetch_effect s
  have hfixed : (u.finishIteration (fetch s).1).fixedState = s.fixedState :=
    (u.finishIteration_fixedState _).trans ((exec_fixedState hexec).trans hfetch.fixedState)
  have hparams : u.params = s.params := (exec_cpuEffect hexec).params.trans hfetch.params
  obtain ⟨hhalted, hstopped, hkept⟩ : _ ∧ _ ∧ _ := by simpa only [State.fixedState, Prod.mk.injEq] using hfixed
  refine ⟨hhalted, hstopped, hkept, u, hexec, fun hfault => ?_⟩
  have hu : u.fault = none := by
    by_contra hne
    exact hne (State.finishIteration_of_fault hne _ ▸ hfault)
  have hcycles := State.finishIteration_cycles hu hfault
  rw [exec_cycles hexec hu, hparams, hfetch.cycles, hfetch.params, opcode_fetch] at hcycles
  exact hcycles

end Sys2Proof.Machine
end

section
/-! PROOFS. Loads, stores and stack operations (40_loads.md R94 to R120, 42_alu16.md R146). An instruction whose
effect leaves pc_written alone falls through, so each family is its rows of the tables (Runs) and the effect of its
form, said in the statement's terms. -/

namespace Sys2Proof.Machine

open Sys2Proof.Spec

/-! Instructions that fall through. -/

/-- The value g of a state does not depend on pc_written. -/
def StepLocalFree {α : Type} (g : State → α) : Prop :=
  ∀ (s : State) (b : Bool), g { s with pcWritten := b } = g s

/-- The update f neither reads nor writes pc_written. -/
def StepLocalBlind (f : State → State) : Prop :=
  ∀ (s : State) (b : Bool), f { s with pcWritten := b } = { f s with pcWritten := b }

theorem complete_eq_passed {body : State → State} (hbody : StepLocalBlind body) (i : Instr) (s : State) :
    complete i body s = .next (passed i.opcode i.size (body s)) := by
  rw [complete, hbody]
  rfl

/-- Instruction i is encoded as op and its operands, the tables give op that size and count, and i executes by the
effect body. -/
structure Runs (i : Instr) (op : Byte) (operands : List Byte) (count : Nat) (body : State → State) : Prop where
  encode : encode i = op :: operands
  size : opSize op = some (operands.length + 1)
  count : defaultParams.cycles.getD op.toNat 0 = count
  exec : exec i = complete i body

/-- An effect blind to pc_written may be stated by any function equal to it. -/
theorem Runs.completes {i : Instr} {op : Byte} {operands : List Byte} {count : Nat} {body effect : State → State}
    (h : Runs i op operands count body) (hbody : StepLocalBlind body) (heffect : body = effect) :
    Completes i (op :: operands) count effect := by
  subst heffect
  obtain ⟨hencode, hsize, hcount, hexec⟩ := h
  have hop : i.opcode = op := by rw [Instr.opcode, hencode, List.headD_cons]
  have hlength : i.size = (op :: operands).length := by rw [Instr.size, hop, hsize, Option.getD_some, List.length_cons]
  refine ⟨hencode, hcount, fun s => ?_⟩
  rw [hexec, complete_eq_passed hbody, hop, hlength, List.headD_cons]

/-! Each form is blind to pc_written. -/

section
variable {address : State → Word}

theorem State.setReg8_stepLocal (s : State) (r : Reg8) (v : Byte) (b : Bool) :
    ({ s with pcWritten := b } : State).setReg8 r v = { s.setReg8 r v with pcWritten := b } := by
  cases r <;> rfl

theorem State.setReg16_stepLocal (s : State) (r : Reg16) (v : Word) (b : Bool) :
    ({ s with pcWritten := b } : State).setReg16 r v = { s.setReg16 r v with pcWritten := b } := by
  cases r <;> rfl

theorem State.setRegStk_stepLocal (s : State) (r : Reg16Stk) (v : Word) (b : Bool) :
    ({ s with pcWritten := b } : State).setRegStk r v = { s.setRegStk r v with pcWritten := b } := by
  cases r <;> rfl

theorem reg8_stepLocalFree (r : Reg8) : StepLocalFree (fun s => s.reg8 r) := by
  intro s b
  cases r <;> rfl

theorem regStk_stepLocalFree (r : Reg16Stk) : StepLocalFree (fun s => s.regStk r) := by
  intro s b
  cases r <;> rfl

theorem loadReg_stepLocal (r r' : Reg8) : StepLocalBlind (loadReg r r') := by
  intro s b
  have hread := reg8_stepLocalFree r' s b
  simp only [loadReg, hread, State.setReg8_stepLocal]

theorem loadImm_stepLocal (r : Reg8) (n : Byte) : StepLocalBlind (loadImm r n) :=
  fun s b => s.setReg8_stepLocal r n b

theorem loadPair_stepLocal (r : Reg16) (n : Word) : StepLocalBlind (loadPair r n) :=
  fun s b => s.setReg16_stepLocal r n b

theorem loadFrom_stepLocal (r : Reg8) (ha : StepLocalFree address) : StepLocalBlind (loadFrom r address) := by
  intro s b
  simp only [loadFrom, ha s b, State.memRead_stepLocal, State.setReg8_stepLocal]

theorem storeTo_stepLocal {value : State → Byte} (ha : StepLocalFree address) (hv : StepLocalFree value) :
    StepLocalBlind (storeTo address value) := by
  intro s b
  simp only [storeTo, ha s b, hv s b, State.memWrite_stepLocal]

theorem storeThenStepHl_stepLocal (delta : Word) : StepLocalBlind (storeThenStepHl delta) := by
  intro s b
  have hstore := s.memWrite_stepLocal s.hl s.a b
  exact congrArg (fun u => u.setHl (s.hl + delta)) hstore

theorem loadThenStepHl_stepLocal (delta : Word) : StepLocalBlind (loadThenStepHl delta) := by
  intro s b
  have hload := s.memRead_stepLocal s.hl b
  exact congrArg (fun r : Byte × State => { r.2 with a := r.1 }.setHl (s.hl + delta)) hload

theorem storeSp_stepLocal (x : Word) : StepLocalBlind (storeSp x) := by
  intro s b
  simp only [storeSp, State.memWrite16, State.memWrite_stepLocal]

theorem pushPair_stepLocal (r : Reg16Stk) : StepLocalBlind (pushPair r) := by
  intro s b
  have hread := regStk_stepLocalFree r s b
  simp only [pushPair, hread, State.push16_stepLocal]

theorem popPair_stepLocal (r : Reg16Stk) : StepLocalBlind (popPair r) := by
  intro s b
  simp only [popPair, State.pop16_stepLocal, State.setRegStk_stepLocal]

end

/-! The forms in the statement's terms. -/

theorem highPage_eq_add (o : Byte) : highPage o = 0xFF00 + o.setWidth 16 := by
  have ho := o.isLt
  have hpage : (0xFF00 : Word).toNat = (0xFF : Byte).toNat * 256 := rfl
  have hbyte : (0xFF : Byte).toNat = 255 := rfl
  apply BitVec.eq_of_toNat_eq
  rw [highPage, wordOf_toNat, BitVec.toNat_add, BitVec.toNat_setWidth, hpage, hbyte]
  omega

/-- Encoding the flags puts each in its bit (10_state.md R20, R21). -/
theorem Flags.toByte_eq_flagByte (z n h c : Bool) : (⟨z, n, h, c⟩ : Flags).toByte = flagByte z n h c := by
  revert z n h c
  decide

theorem State.push16_eq_push (s : State) (v : Word) : s.push16 v = push v s := by
  simp only [State.push16, push, hiByte_eq_high, loByte_eq_low]

theorem State.pop16_eq (s : State) : s.pop16 = (popped s, pop s) :=
  Prod.ext (wordOf_eq_append _ _) rfl

theorem storeSp_eq (x : Word) :
    storeSp x = fun s => (s.memWrite x (low s.sp)).memWrite (x + 1) (high s.sp) := by
  funext s
  rw [storeSp, State.memWrite16, loByte_eq_low, hiByte_eq_high]

theorem pushPair_eq (r : Reg16Stk) : pushPair r = fun s => push (s.regStk r) s :=
  funext fun s => s.push16_eq_push _

theorem popPair_eq (r : Reg16Stk) : popPair r = fun s => (pop s).setRegStk r (popped s) := by
  funext s
  rw [popPair, State.pop16_eq]

theorem encode_word_operand {op : Byte} {i : Word → Instr} (h : ∀ x, encode (i x) = [op, loByte x, hiByte x])
    (x : Word) : encode (i x) = [op, low x, high x] := by
  rw [h, loByte_eq_low, hiByte_eq_high]

/-! The families. -/

section
variable {i : Instr} {op : Byte} {operands : List Byte} {count : Nat} {address : State → Word}

theorem Runs.completes_load {r : Reg8} (h : Runs i op operands count (loadFrom r address))
    (haddress : StepLocalFree address) : Completes i (op :: operands) count (load r address) :=
  h.completes (loadFrom_stepLocal r haddress) rfl

theorem Runs.completes_store {value : State → Byte} (h : Runs i op operands count (storeTo address value))
    (haddress : StepLocalFree address) (hvalue : StepLocalFree value) :
    Completes i (op :: operands) count (fun s => s.memWrite (address s) (value s)) :=
  h.completes (storeTo_stepLocal haddress hvalue) rfl

end

/-- Settles O6: every form is loadReg of its two registers. -/
theorem loadRegisterFromRegister : Obligations.LoadRegisterFromRegister := by
  intro r r'
  cases r <;> cases r' <;> exact Runs.completes ⟨rfl, rfl, rfl, rfl⟩ (loadReg_stepLocal _ _) rfl

/-- Settles O7: every form is loadFrom or storeTo at its pair. -/
theorem loadsAndStoresThroughPairs : Obligations.LoadsAndStoresThroughPairs := by
  refine ⟨fun r => ?_, fun r => ?_, ?_, ?_, ?_, ?_⟩
  · cases r <;> exact Runs.completes_load ⟨rfl, rfl, rfl, rfl⟩ fun _ _ => rfl
  · cases r <;> exact Runs.completes_store ⟨rfl, rfl, rfl, rfl⟩ (fun _ _ => rfl) (reg8_stepLocalFree _)
  · exact Runs.completes_load ⟨rfl, rfl, rfl, rfl⟩ fun _ _ => rfl
  · exact Runs.completes_load ⟨rfl, rfl, rfl, rfl⟩ fun _ _ => rfl
  · exact Runs.completes_store ⟨rfl, rfl, rfl, rfl⟩ (fun _ _ => rfl) fun _ _ => rfl
  · exact Runs.completes_store ⟨rfl, rfl, rfl, rfl⟩ (fun _ _ => rfl) fun _ _ => rfl

/-- Settles O8: loadImm for a register, storeTo for (HL). -/
theorem loadsOfImmediateBytes : Obligations.LoadsOfImmediateBytes := by
  refine ⟨fun r n => ?_, fun n => ?_⟩
  · cases r <;> exact Runs.completes ⟨rfl, rfl, rfl, rfl⟩ (loadImm_stepLocal _ n) rfl
  · exact Runs.completes_store ⟨rfl, rfl, rfl, rfl⟩ (fun _ _ => rfl) fun _ _ => rfl

/-- Settles O9: a decrement adds -1. -/
theorem loadsAndStoresThatStepHl : Obligations.LoadsAndStoresThatStepHl := by
  have hsub : ∀ x : Word, x - 1 = x + (-1) := fun x => BitVec.sub_eq_add_neg x 1
  simp only [Obligations.LoadsAndStoresThatStepHl, hsub]
  refine ⟨?_, ?_, ?_, ?_⟩
  · exact Runs.completes ⟨rfl, rfl, rfl, rfl⟩ (storeThenStepHl_stepLocal 1) rfl
  · exact Runs.completes ⟨rfl, rfl, rfl, rfl⟩ (storeThenStepHl_stepLocal (-1)) rfl
  · exact Runs.completes ⟨rfl, rfl, rfl, rfl⟩ (loadThenStepHl_stepLocal 1) rfl
  · exact Runs.completes ⟨rfl, rfl, rfl, rfl⟩ (loadThenStepHl_stepLocal (-1)) rfl

/-- Settles O10: loadFrom or storeTo at the operand or at highPage, whose value is 0xFF00 plus the offset. -/
theorem loadsAndStoresAtAbsoluteAndHighPageAddresses :
    Obligations.LoadsAndStoresAtAbsoluteAndHighPageAddresses := by
  simp only [Obligations.LoadsAndStoresAtAbsoluteAndHighPageAddresses, ← highPage_eq_add]
  refine ⟨fun x => ?_, fun x => ?_, fun o => ?_, fun o => ?_, ?_, ?_⟩
  · exact Runs.completes_load ⟨encode_word_operand (fun _ => rfl) x, rfl, rfl, rfl⟩ fun _ _ => rfl
  · exact Runs.completes_store ⟨encode_word_operand (fun _ => rfl) x, rfl, rfl, rfl⟩ (fun _ _ => rfl)
      fun _ _ => rfl
  · exact Runs.completes_store ⟨rfl, rfl, rfl, rfl⟩ (fun _ _ => rfl) fun _ _ => rfl
  · exact Runs.completes_load ⟨rfl, rfl, rfl, rfl⟩ fun _ _ => rfl
  · exact Runs.completes_store ⟨rfl, rfl, rfl, rfl⟩ (fun _ _ => rfl) fun _ _ => rfl
  · exact Runs.completes_load ⟨rfl, rfl, rfl, rfl⟩ fun _ _ => rfl

/-- Settles O11: loadPair, loadSpFromHl and storeSp. -/
theorem sixteenBitLoads : Obligations.SixteenBitLoads := by
  refine ⟨fun r n => ?_, ?_, fun x => ?_⟩
  · cases r <;>
      exact Runs.completes ⟨encode_word_operand (fun _ => rfl) n, rfl, rfl, rfl⟩ (loadPair_stepLocal _ n) rfl
  · exact Runs.completes (body := loadSpFromHl) ⟨rfl, rfl, rfl, rfl⟩ (fun _ _ => rfl) rfl
  · exact Runs.completes ⟨encode_word_operand (fun _ => rfl) x, rfl, rfl, rfl⟩ (storeSp_stepLocal x) (storeSp_eq x)

/-- Settles O12: the flags of the model's sum are those of the statement, each in its bit. -/
theorem stackPointerPlusDisplacement : Obligations.StackPointerPlusDisplacement := by
  simp only [Obligations.StackPointerPlusDisplacement, ← Flags.toByte_eq_flagByte]
  refine ⟨fun e => ?_, fun e => ?_⟩
  · exact Runs.completes (body := loadHlFromSp e) ⟨rfl, rfl, rfl, rfl⟩ (fun _ _ => rfl) rfl
  · exact Runs.completes (body := addToSp e) ⟨rfl, rfl, rfl, rfl⟩ (fun _ _ => rfl) rfl

/-- Settles O13: PUSH is push16 of the pair. -/
theorem pushStoresHighThenLow : Obligations.PushStoresHighThenLow := by
  intro r
  cases r <;> exact Runs.completes ⟨rfl, rfl, rfl, rfl⟩ (pushPair_stepLocal _) (pushPair_eq _)

/-- Settles O14: POP writes what pop16 answers to the pair. -/
theorem popReadsLowThenHigh : Obligations.PopReadsLowThenHigh := by
  intro r
  cases r <;> exact Runs.completes ⟨rfl, rfl, rfl, rfl⟩ (popPair_stepLocal _) (popPair_eq _)

end Sys2Proof.Machine
end

section
/-! PROOFS. The round trip of PUSH and POP (40_loads.md R120): the popped word is the pushed one where both stack
bytes are plain. -/

namespace Sys2Proof.Machine

open Sys2Proof.Spec

/-- Where neither stack byte is closed or a collaborator's, pop16 reads the flat array. -/
theorem popped_of_plain {s : State} (hlo : plain s s.sp) (hhi : plain s (s.sp + 1)) :
    popped s = s.peek (s.sp + 1) ++ s.peek s.sp := by
  simp only [popped, State.memRead_of_plain hlo, State.memRead_of_plain hhi]

/-- Where neither stack byte is closed or a collaborator's, push16 pokes the flat array. -/
theorem push_of_plain {s : State} (hhi : plain s (s.sp - 1)) (hlo : plain s (s.sp - 2)) (v : Word) :
    push v s = { (s.poke (s.sp - 1) (high v)).poke (s.sp - 2) (low v) with sp := s.sp - 2 } := by
  have hlo' : plain (s.poke (s.sp - 1) (high v)) (s.sp - 2) := hlo
  rw [push, State.memWrite_of_plain hhi, State.memWrite_of_plain hlo']

/-- What is plain stays plain through a PUSH. -/
theorem plain_passed_push (op : Byte) (size : Nat) (v : Word) (s : State) (x : Word) :
    plain (passed op size (push v s)) x ↔ plain s x := by
  simp [plain, passed, State.blocked, ← State.push16_eq_push]

section
variable {s : State} (hs : s.memoryCanonical) (hhi : plain s (s.sp - 1)) (hlo : plain s (s.sp - 2))
include hs hhi hlo

theorem peek_push_low (v : Word) : (push v s).peek (s.sp - 2) = low v := by
  rw [push_of_plain hhi hlo]
  exact State.peek_poke_same (State.poke_wf hs _ _) _ _

theorem peek_push_high (v : Word) : (push v s).peek (s.sp - 1) = high v := by
  have hne : s.sp - 1 ≠ s.sp - 2 := by bv_omega
  rw [push_of_plain hhi hlo]
  exact (State.peek_poke_other hne _ _).trans (State.peek_poke_same hs _ _)

/-- After a PUSH through plain memory the stack holds the word pushed. -/
theorem popped_passed_push (op : Byte) (size : Nat) (v : Word) : popped (passed op size (push v s)) = v := by
  have hnext : s.sp - 2 + 1 = s.sp - 1 := by bv_omega
  have hplain := plain_passed_push op size v s
  calc popped (passed op size (push v s))
      = (push v s).peek (s.sp - 2 + 1) ++ (push v s).peek (s.sp - 2) :=
        popped_of_plain ((hplain _).mpr hlo) ((hplain _).mpr (hnext ▸ hhi :))
    _ = high v ++ low v := by rw [hnext, peek_push_high hs hhi hlo, peek_push_low hs hhi hlo]
    _ = v := high_append_low v

end

theorem byte_and_F0_of_low {f : Byte} (h : f &&& 0x0F = 0) : f &&& 0xF0 = f := by
  revert f
  decide

/-- A pair takes back the value read from it; F loses nothing where its low nibble is zero. -/
theorem State.setRegStk_regStk_restores {s : State} (hs : s.flagsCanonical) (t : State) (r : Reg16Stk) :
    (t.setRegStk r (s.regStk r)).regStk r = s.regStk r := by
  cases r with
  | af =>
    have hlow : low (wordOf s.a s.f) &&& 0xF0 = s.f := by
      rw [← loByte_eq_low, loByte_wordOf, byte_and_F0_of_low hs]
    simp only [State.regStk, State.af, State.setRegStk_af_eq, hlow, ← hiByte_eq_high, hiByte_wordOf]
  | bc | de | hl => exact wordOf_hiByte_loByte _

theorem regStk_passed (op : Byte) (size : Nat) (t : State) (r : Reg16Stk) :
    (passed op size t).regStk r = t.regStk r := by
  cases r <;> rfl

/-- Settles O15: the word popped is the word pushed, and SP rises by what it fell. -/
theorem pushThenPopRestores : Obligations.PushThenPopRestores := by
  intro r s hs hf hhi hlo
  obtain ⟨-, -, hpush⟩ := pushStoresHighThenLow r
  obtain ⟨-, -, hpop⟩ := popReadsLowThenHigh r
  refine ⟨_, _, hpush s, hpop _, ?_, ?_⟩
  · simp only [regStk_passed, popped_passed_push hs hhi hlo]
    exact State.setRegStk_regStk_restores hf _ r
  · simp [passed, pop, push]

end Sys2Proof.Machine
end

section
/-! PROOFS. 8-bit arithmetic, logic and flag operations (41_alu8.md R121 to R142). Each of the model's flag
computations is said once in the bit-vector terms of the statements; each form completes with the effect that its
computation gives, for every operand at once. -/

namespace Sys2Proof.Machine

open Sys2Proof.Spec

/-! Results and flags in the statements' terms. -/

theorem b2i_le_one (b : Bool) : b2i b ≤ 1 := by
  cases b <;> decide

theorem byte_beq_zero_eq (r : Byte) : (r == 0) = (r.toNat == 0) :=
  beq_eq_beq.mpr BitVec.toNat_inj.symm

/-- ADD and ADC (R123, R124): narrowing the unbounded sum is adding modulo 256. -/
theorem addFlags_eq (a v : Byte) (cin : Bool) :
    addFlags a v cin =
      (a + v + BitVec.ofNat 8 (b2i cin),
        ⟨a + v + BitVec.ofNat 8 (b2i cin) == 0, false, decide (a.toNat % 16 + v.toNat % 16 + b2i cin > 0x0F),
          decide (a.toNat + v.toNat + b2i cin > 0xFF)⟩) := by
  have hsum : BitVec.ofNat 8 (a.toNat + v.toNat + b2i cin) = a + v + BitVec.ofNat 8 (b2i cin) := by
    simp only [BitVec.ofNat_add, BitVec.ofNat_toNat, BitVec.setWidth_eq]
  rw [← hsum, byte_beq_zero_eq, BitVec.toNat_ofNat]
  rfl

/-- SUB, SBC and CP (R125, R126, R130): narrowing the unbounded difference is subtracting modulo 256. -/
theorem subFlags_eq (a v : Byte) (cin : Bool) :
    subFlags a v cin =
      (a - v - BitVec.ofNat 8 (b2i cin),
        ⟨a - v - BitVec.ofNat 8 (b2i cin) == 0, true, decide (a.toNat % 16 < v.toNat % 16 + b2i cin),
          decide (a.toNat < v.toNat + b2i cin)⟩) := by
  have hdiff : ((a.toNat : Int) - v.toNat - b2i cin) % 256 = (a - v - BitVec.ofNat 8 (b2i cin)).toNat := by
    have hcin := b2i_le_one cin
    simp only [BitVec.toNat_sub, BitVec.toNat_ofNat]
    omega
  have hzero (n : Nat) : ((n : Int) == 0) = (n == 0) := beq_eq_beq.mpr Int.natCast_eq_zero
  simp only [subFlags, hdiff, hzero, ← byte_beq_zero_eq, BitVec.ofInt_natCast, BitVec.ofNat_toNat, BitVec.setWidth_eq]

theorem addFlags_without_carry (a v : Byte) :
    addFlags a v false =
      (a + v, ⟨a + v == 0, false, decide (a.toNat % 16 + v.toNat % 16 > 0x0F), decide (a.toNat + v.toNat > 0xFF)⟩) := by
  have hcin : a + v + BitVec.ofNat 8 (b2i false) = a + v := BitVec.add_zero _
  rw [addFlags_eq, hcin]
  rfl

/-- Without a borrow-in the difference is zero exactly when the operands are equal. -/
theorem subFlags_without_borrow (a v : Byte) :
    subFlags a v false =
      (a - v, ⟨a == v, true, decide (a.toNat % 16 < v.toNat % 16), decide (a < v)⟩) := by
  have hcin : a - v - BitVec.ofNat 8 (b2i false) = a - v := BitVec.sub_zero _
  have hzero : (a - v == 0) = (a == v) := beq_eq_beq.mpr sub_eq_zero
  rw [subFlags_eq, hcin, hzero]
  rfl

/-- INC (R131, R132): the byte's own value tells both flags. -/
theorem incFlags_eq (v : Byte) (g : Flags) :
    incFlags v g = (v + 1, ⟨v == 0xFF, false, v &&& 0x0F == 0x0F, g.c⟩) := by
  have hz : ∀ x : Byte, (x + 1 == 0) = (x == 0xFF) := by decide
  have hh : ∀ x : Byte, (x.toNat % 16 == 0x0F) = (x &&& 0x0F == 0x0F) := by decide
  rw [incFlags, hz, hh]

/-- DEC (R133, R134). -/
theorem decFlags_eq (v : Byte) (g : Flags) :
    decFlags v g = (v - 1, ⟨v == 0x01, true, v &&& 0x0F == 0x00, g.c⟩) := by
  have hz : (v - 1 == 0) = (v == 0x01) := beq_eq_beq.mpr sub_eq_zero
  have hh : ∀ x : Byte, (x.toNat % 16 == 0x00) = (x &&& 0x0F == 0x00) := by decide
  rw [decFlags, hz, hh]

/-- A left by one (R135, R136): bits 6..0, then the bit shifted in. -/
theorem rotateLeft_eq (a : Byte) (b0 : Bool) :
    rotateLeft a b0 = (a.extractLsb' 0 7 ++ BitVec.ofBool b0, ⟨false, false, false, a.getLsbD 7⟩) := by
  have hshift : ∀ (x : Byte) (b : Bool), x <<< 1 ||| BitVec.ofNat 8 (b2i b) = x.extractLsb' 0 7 ++ BitVec.ofBool b := by
    decide
  rw [rotateLeft, hshift]

/-- A right by one (R137, R138): the bit shifted in, then bits 7..1. -/
theorem rotateRight_eq (a : Byte) (b7 : Bool) :
    rotateRight a b7 = (BitVec.ofBool b7 ++ a.extractLsb' 1 7, ⟨false, false, false, a.getLsbD 0⟩) := by
  have hshift : ∀ (x : Byte) (b : Bool),
      x >>> 1 ||| BitVec.ofNat 8 (b2i b * 128) = BitVec.ofBool b ++ x.extractLsb' 1 7 := by
    decide
  rw [rotateRight, hshift]

/-- A circular rotate shifts in the bit it shifts out. -/
theorem byte_rotateLeft_one (a : Byte) : a.rotateLeft 1 = a.extractLsb' 0 7 ++ BitVec.ofBool (a.getLsbD 7) := by
  revert a
  decide

theorem byte_rotateRight_one (a : Byte) : a.rotateRight 1 = BitVec.ofBool (a.getLsbD 0) ++ a.extractLsb' 1 7 := by
  revert a
  decide

theorem daaUpper_eq (a : Byte) (g : Flags) : daaUpper a g = (g.c || (!g.n && decide (a.toNat > 0x99))) := by
  cases hn : g.n <;> simp [daaUpper, hn]

theorem daaLower_eq (a : Byte) (g : Flags) : daaLower a g = (g.h || (!g.n && decide (a.toNat % 16 > 0x09))) := by
  cases hn : g.n <;> simp [daaLower, hn]

/-- The two corrections share no bit, so their union is their sum. -/
theorem daaCorrection_eq (a : Byte) (g : Flags) :
    daaCorrection a g = BitVec.ofNat 8 (bit (daaUpper a g) * 0x60 + bit (daaLower a g) * 0x06) := by
  rw [daaCorrection]
  cases daaUpper a g <;> cases daaLower a g <;> rfl

/-! The accumulator group (R121). -/

theorem operand_a (src : Src8) (s : State) : (operand src s).2.a = s.a := by
  cases src with
  | reg | imm => rfl
  | atHl => exact s.memRead_a s.hl

theorem operand_flags (src : Src8) (s : State) : (operand src s).2.flags = s.flags := by
  cases src with
  | reg | imm => rfl
  | atHl => exact congrArg Flags.ofByte (s.memRead_f s.hl)

/-- Reading the operand changes neither A nor F, so the operation is one of the state before it. -/
theorem accumulate_eq (op : AluOp) (src : Src8) (s : State) :
    accumulate op src s =
      { (operand src s).2 with
        a := (aluApply op s.a (operand src s).1 s.flags).1
        f := (aluApply op s.a (operand src s).1 s.flags).2.toByte } := by
  rw [← operand_a src s, ← operand_flags src s]
  cases src <;> rfl

theorem operand_stepLocal (src : Src8) (s : State) (b : Bool) :
    operand src { s with pcWritten := b } = ((operand src s).1, { (operand src s).2 with pcWritten := b }) := by
  cases src with
  | reg r => exact congrArg (·, { s with pcWritten := b }) (reg8_stepLocalFree r s b)
  | imm => rfl
  | atHl => exact s.memRead_stepLocal s.hl b

theorem accumulate_stepLocal (op : AluOp) (src : Src8) : StepLocalBlind (accumulate op src) := by
  intro s b
  rw [accumulate_eq, accumulate_eq, operand_stepLocal]
  rfl

/-- Every row of the accumulator group completes by accumulate of its operation and operand. -/
theorem completes_accumulate (op : AluOp) (src : Src8) :
    Completes (.alu op src) (aluBytes op src) (aluCount src) (accumulate op src) := by
  cases src with
  | reg r => cases op <;> cases r <;> exact Runs.completes ⟨rfl, rfl, rfl, rfl⟩ (accumulate_stepLocal _ _) rfl
  | atHl | imm => cases op <;> exact Runs.completes ⟨rfl, rfl, rfl, rfl⟩ (accumulate_stepLocal _ _) rfl

/-- The group's effect from what the operation answers on A and an operand byte. -/
theorem completes_alu {op : AluOp} {result : State → Byte → Byte × Flags}
    (h : ∀ s v, aluApply op s.a v s.flags = result s v) (src : Src8) :
    Completes (.alu op src) (aluBytes op src) (aluCount src) (fun s =>
      { (operand src s).2 with
        a := (result s (operand src s).1).1
        f := (result s (operand src s).1).2.toByte }) := by
  simpa only [funext (accumulate_eq op src), h] using completes_accumulate op src

/-- CP writes back the A it found (R130). -/
theorem accumulate_cp_eq (src : Src8) (s : State) :
    accumulate .cp src s =
      { (operand src s).2 with f := (subFlags s.a (operand src s).1 false).2.toByte } := by
  rw [accumulate_eq, ← operand_a src s]
  rfl

/-- Settles O16: the model's sums with carry-in 0 and C. -/
theorem addAndAddWithCarry : Obligations.AddAndAddWithCarry := by
  simp only [Obligations.AddAndAddWithCarry, ← Flags.toByte_eq_flagByte]
  intro src
  exact ⟨completes_alu (op := .add) (fun s v => addFlags_without_carry s.a v) src,
    completes_alu (op := .adc) (fun s v => addFlags_eq s.a v (cf s)) src⟩

/-- Settles O17: the model's differences with borrow-in 0 and C. -/
theorem subtractAndCompare : Obligations.SubtractAndCompare := by
  simp only [Obligations.SubtractAndCompare, ← Flags.toByte_eq_flagByte]
  intro src
  refine ⟨completes_alu (op := .sub) (fun s v => subFlags_without_borrow s.a v) src,
    completes_alu (op := .sbc) (fun s v => subFlags_eq s.a v (cf s)) src, ?_⟩
  simpa only [funext (accumulate_cp_eq src), subFlags_without_borrow] using completes_accumulate .cp src

/-- Settles O18: the model's logic results are the statement's. -/
theorem logicOperations : Obligations.LogicOperations := by
  simp only [Obligations.LogicOperations, ← Flags.toByte_eq_flagByte]
  intro src
  exact ⟨completes_alu (result := fun s v => logicFlags (s.a &&& v) true) (fun _ _ => rfl) src,
    completes_alu (result := fun s v => logicFlags (s.a ^^^ v) false) (fun _ _ => rfl) src,
    completes_alu (result := fun s v => logicFlags (s.a ||| v) false) (fun _ _ => rfl) src⟩

/-! Increment and decrement (R131 to R134). -/

/-- INC r and DEC r: register r and the flags take what op answers on the register's byte. -/
def modifyReg (op : Byte → Flags → Byte × Flags) (r : Reg8) (s : State) : State :=
  (s.setReg8 r (op (s.reg8 r) s.flags).1).setFlags (op (s.reg8 r) s.flags).2

theorem modifyReg_incFlags (r : Reg8) : modifyReg incFlags r = incrementReg r := rfl

theorem modifyReg_decFlags (r : Reg8) : modifyReg decFlags r = decrementReg r := rfl

theorem modifyReg_stepLocal (op : Byte → Flags → Byte × Flags) (r : Reg8) : StepLocalBlind (modifyReg op r) := by
  intro s b
  cases r <;> rfl

/-- INC (HL) and DEC (HL): the byte at HL is read, then written with what op answers on it. -/
def modifyAtHl (op : Byte → Flags → Byte × Flags) (s : State) : State :=
  ((s.memRead s.hl).2.memWrite s.hl (op (s.memRead s.hl).1 s.flags).1).setFlags (op (s.memRead s.hl).1 s.flags).2

theorem modifyAtHl_incFlags : modifyAtHl incFlags = incrementAtHl := rfl

theorem modifyAtHl_decFlags : modifyAtHl decFlags = decrementAtHl := rfl

theorem modifyAtHl_stepLocal (op : Byte → Flags → Byte × Flags) : StepLocalBlind (modifyAtHl op) := by
  intro s b
  have hhl : ({ s with pcWritten := b } : State).hl = s.hl := rfl
  rw [modifyAtHl, hhl, State.memRead_stepLocal, State.memWrite_stepLocal]
  rfl

/-- Settles O19: INC r and DEC r modify the register by incFlags and decFlags. -/
theorem incrementAndDecrementRegister : Obligations.IncrementAndDecrementRegister := by
  simp only [Obligations.IncrementAndDecrementRegister, ← Flags.toByte_eq_flagByte]
  intro r
  have hinc := (modifyReg_incFlags r).symm.trans (congrArg (modifyReg · r) (funext₂ incFlags_eq))
  have hdec := (modifyReg_decFlags r).symm.trans (congrArg (modifyReg · r) (funext₂ decFlags_eq))
  constructor
  · cases r <;> exact Runs.completes ⟨rfl, rfl, rfl, rfl⟩ (modifyReg_stepLocal incFlags _) hinc
  · cases r <;> exact Runs.completes ⟨rfl, rfl, rfl, rfl⟩ (modifyReg_stepLocal decFlags _) hdec

/-- Settles O20: INC (HL) and DEC (HL) modify the byte by incFlags and decFlags. -/
theorem incrementAndDecrementAtHl : Obligations.IncrementAndDecrementAtHl := by
  simp only [Obligations.IncrementAndDecrementAtHl, ← Flags.toByte_eq_flagByte]
  constructor
  · exact Runs.completes ⟨rfl, rfl, rfl, rfl⟩ (modifyAtHl_stepLocal incFlags)
      (modifyAtHl_incFlags.symm.trans (congrArg modifyAtHl (funext₂ incFlags_eq)))
  · exact Runs.completes ⟨rfl, rfl, rfl, rfl⟩ (modifyAtHl_stepLocal decFlags)
      (modifyAtHl_decFlags.symm.trans (congrArg modifyAtHl (funext₂ decFlags_eq)))

/-! Operations on A and the flags alone (R135 to R142). -/

/-- Settles O21: the byte rotated, with the bit shifted out as the carry. -/
theorem rotatesOfTheAccumulator : Obligations.RotatesOfTheAccumulator := by
  simp only [Obligations.RotatesOfTheAccumulator, ← Flags.toByte_eq_flagByte, byte_rotateLeft_one,
    byte_rotateRight_one]
  refine ⟨?_, ?_, ?_, ?_⟩
  · exact Runs.completes (body := rotateLeftCircular) ⟨rfl, rfl, rfl, rfl⟩ (fun _ _ => rfl)
      (funext fun s => congrArg (setAcc s) (rotateLeft_eq s.a (s.a.getLsbD 7)))
  · exact Runs.completes (body := rotateLeftThroughCarry) ⟨rfl, rfl, rfl, rfl⟩ (fun _ _ => rfl)
      (funext fun s => congrArg (setAcc s) (rotateLeft_eq s.a s.flags.c))
  · exact Runs.completes (body := rotateRightCircular) ⟨rfl, rfl, rfl, rfl⟩ (fun _ _ => rfl)
      (funext fun s => congrArg (setAcc s) (rotateRight_eq s.a (s.a.getLsbD 0)))
  · exact Runs.completes (body := rotateRightThroughCarry) ⟨rfl, rfl, rfl, rfl⟩ (fun _ _ => rfl)
      (funext fun s => congrArg (setAcc s) (rotateRight_eq s.a s.flags.c))

/-- Settles O22: the corrections and their amount as the statement gives them. -/
theorem decimalAdjust_completes : Obligations.DecimalAdjust := by
  simp only [Obligations.DecimalAdjust, ← Flags.toByte_eq_flagByte]
  refine ⟨Runs.completes (body := decimalAdjust) ⟨rfl, rfl, rfl, rfl⟩ (fun _ _ => rfl) (funext fun s => ?_), rfl⟩
  rw [decimalAdjust, daaFlags, daaCorrection_eq, daaUpper_eq, daaLower_eq]
  rfl

/-- Settles O23: complementing A is exclusive or with all ones. -/
theorem complementAndCarryOperations : Obligations.ComplementAndCarryOperations := by
  have hnot (a : Byte) : ~~~a = a ^^^ 0xFF := BitVec.xor_allOnes.symm
  simp only [Obligations.ComplementAndCarryOperations, ← Flags.toByte_eq_flagByte, hnot]
  refine ⟨?_, ?_, ?_⟩
  · exact Runs.completes (body := complementA) ⟨rfl, rfl, rfl, rfl⟩ (fun _ _ => rfl) rfl
  · exact Runs.completes (body := setCarry) ⟨rfl, rfl, rfl, rfl⟩ (fun _ _ => rfl) rfl
  · exact Runs.completes (body := complementCarry) ⟨rfl, rfl, rfl, rfl⟩ (fun _ _ => rfl) rfl

end Sys2Proof.Machine
end

section
/-! PROOFS. 16-bit arithmetic (42_alu16.md R143 to R145). Reading and writing a register pair leave pc_written alone,
so every form falls through; the sum and flags of ADD HL,rr are said once in the bit-vector terms of the statement. -/

namespace Sys2Proof.Machine

open Sys2Proof.Spec

theorem word_beq_zero_eq (v : Word) : (v == 0) = (v.toNat == 0) :=
  beq_eq_beq.mpr BitVec.toNat_inj.symm

/-- R143: narrowing the unbounded sum is adding modulo 2^16. -/
theorem add16Flags_eq (x v : Word) :
    add16Flags x v =
      (x + v, ⟨x + v == 0, false, decide (x.toNat % 4096 + v.toNat % 4096 > 0x0FFF),
        decide (x.toNat + v.toNat > 0xFFFF)⟩) := by
  have hsum : BitVec.ofNat 16 (x.toNat + v.toNat) = x + v := by
    simp only [BitVec.ofNat_add, BitVec.ofNat_toNat, BitVec.setWidth_eq]
  rw [← hsum, word_beq_zero_eq, BitVec.toNat_ofNat]
  rfl

theorem addToHl_eq (r : Reg16) :
    addToHl r = fun s =>
      { s.setReg16 .hl (s.hl + s.reg16 r) with
        f := (⟨s.hl + s.reg16 r == 0, false, decide (s.hl.toNat % 4096 + (s.reg16 r).toNat % 4096 > 0x0FFF),
          decide (s.hl.toNat + (s.reg16 r).toNat > 0xFFFF)⟩ : Flags).toByte } := by
  funext s
  rw [addToHl, add16Flags_eq]
  rfl

theorem addToHl_stepLocal (r : Reg16) : StepLocalBlind (addToHl r) := by
  intro s b
  cases r <;> rfl

/-- Rewriting a pair by any function of its own value is blind to pc_written. -/
theorem setReg16_reg16_stepLocal (g : Word → Word) (r : Reg16) :
    StepLocalBlind (fun s => s.setReg16 r (g (s.reg16 r))) := by
  intro s b
  cases r <;> rfl

/-- Settles O24: ADD HL,rr is addToHl of its pair, with the flags each in its bit. -/
theorem addPairToHl : Obligations.AddPairToHl := by
  simp only [Obligations.AddPairToHl, ← Flags.toByte_eq_flagByte]
  intro r
  cases r <;> exact Runs.completes ⟨rfl, rfl, rfl, rfl⟩ (addToHl_stepLocal _) (addToHl_eq _)

/-- Settles O25: INC rr and DEC rr rewrite the pair from its own value and nothing else. -/
theorem incrementAndDecrementPair : Obligations.IncrementAndDecrementPair := by
  intro r
  constructor
  · cases r <;> exact Runs.completes ⟨rfl, rfl, rfl, rfl⟩ (setReg16_reg16_stepLocal (· + 1) _) rfl
  · cases r <;> exact Runs.completes ⟨rfl, rfl, rfl, rfl⟩ (setReg16_reg16_stepLocal (· - 1) _) rfl

end Sys2Proof.Machine
end

section
/-! PROOFS. Control transfer (43_control.md R147 to R158). A transfer taken is its effect, then PC at the target
(TransfersTo); one not taken changes nothing, so it falls through. Each family is its rows of the tables (Runs) and
what its form transfers to. -/

namespace Sys2Proof.Machine

open Sys2Proof.Spec

/-- Settles O26: C and Z of the flags are bits 4 and 7 of F. -/
theorem conditionEvaluation : Obligations.ConditionEvaluation := by
  refine ⟨fun carry zero negate s => ?_, fun s => ⟨rfl, rfl, rfl, rfl⟩⟩
  simp only [evalCond, Bool.and_eq_true, Bool.not_eq_true']
  rfl

/-! Transfers taken and not taken. -/

/-- From pc_written cleared, body has the effect and then puts PC at the target. -/
def TransfersTo (body effect : State → State) (target : State → Word) : Prop :=
  ∀ s : State, body { s with pcWritten := false } = (effect s).jumpTo (target s)

theorem retire_jumpTo (i : Instr) (x : Word) (t : State) : retire i (t.jumpTo x) = jumped i.opcode x t := rfl

theorem retire_eq_passed (i : Instr) (s : State) :
    retire i { s with pcWritten := false } = passed i.opcode i.size s := rfl

theorem when_of_holds {cc : Cond} {s : State} (h : holds cc s = true) (body : State → State) :
    when cc body s = body s := by
  rw [when, condHolds_flags, if_pos h]

theorem when_of_not_holds {cc : Cond} {s : State} (h : ¬ holds cc s = true) (body : State → State) :
    when cc body s = s := by
  rw [when, condHolds_flags, if_neg h]

section
variable {i : Instr} {op : Byte} {operands : List Byte} {count : Nat} {body effect : State → State}

theorem Runs.opcode_eq (h : Runs i op operands count body) : i.opcode = op := by
  rw [Instr.opcode, h.encode, List.headD_cons]

theorem Runs.size_eq (h : Runs i op operands count body) : i.size = operands.length + 1 := by
  rw [Instr.size, h.opcode_eq, h.size, Option.getD_some]

/-- A transfer without a condition. -/
theorem Runs.jumps {target : State → Word} (h : Runs i op operands count body)
    (hbody : TransfersTo body effect target) :
    Jumps i (op :: operands) count effect (fun s => some (target s)) := by
  refine ⟨h.encode, h.count, fun s => ?_⟩
  rw [h.exec, complete, hbody, retire_jumpTo, h.opcode_eq, List.headD_cons]

/-- A transfer under a condition: holds reads F alone, so clearing pc_written leaves it. -/
theorem Runs.jumps_when {cc : Cond} {target : State → Word} (h : Runs i op operands count (when cc body))
    (hbody : TransfersTo body effect target) :
    Jumps i (op :: operands) count effect (fun s => if holds cc s then some (target s) else none) := by
  refine ⟨h.encode, h.count, fun s => ?_⟩
  rw [h.exec, complete]
  by_cases hcc : holds cc s = true
  · rw [when_of_holds (s := { s with pcWritten := false }) hcc, hbody, retire_jumpTo, h.opcode_eq]
    simp [hcc]
  · rw [when_of_not_holds (s := { s with pcWritten := false }) hcc, retire_eq_passed, h.opcode_eq, h.size_eq]
    simp [hcc]

end

/-! Where each form transfers to. -/

theorem jumpTo_transfersTo (x : Word) : TransfersTo (jumpTo x) id (fun _ => x) := fun _ => rfl

theorem jumpToHl_transfersTo : TransfersTo jumpToHl id (fun s => s.hl) := fun _ => rfl

theorem jumpRelative_transfersTo (e : Byte) :
    TransfersTo (jumpRelative e) id (fun s => s.pc + 2 + e.signExtend 16) := fun _ => rfl

theorem callTo_transfersTo (size x : Word) :
    TransfersTo (callTo size x) (fun s => push (s.pc + size) s) (fun _ => x) := by
  intro s
  rw [callTo, State.push16_stepLocal, State.push16_eq_push]
  rfl

theorem returnFromCall_transfersTo : TransfersTo returnFromCall pop popped := by
  intro s
  rw [returnFromCall, State.pop16_stepLocal, State.pop16_eq]
  rfl

/-- Popping leaves IME and prev_IME, so the swap is of the values before it (R157). -/
theorem returnFromInterrupt_transfersTo :
    TransfersTo State.returnFromInterrupt (fun s => { pop s with ime := s.prevIme, prevIme := s.ime }) popped := by
  intro s
  have hime : (pop s).ime = s.ime := s.pop16_ime
  have hprev : (pop s).prevIme = s.prevIme := s.pop16_prevIme
  rw [State.returnFromInterrupt, State.pop16_stepLocal, State.pop16_eq]
  beta_reduce
  rw [← hime, ← hprev]
  rfl

/-! The families. -/

/-- Settles O27: jumpTo, jumpToHl and jumpRelative, alone and under each condition. -/
theorem absoluteAndRelativeJumps : Obligations.AbsoluteAndRelativeJumps := by
  refine ⟨fun x => ?_, fun cc x => ?_, ?_, fun e => ?_, fun cc e => ?_⟩
  · exact Runs.jumps ⟨encode_word_operand (fun _ => rfl) x, rfl, rfl, rfl⟩ (jumpTo_transfersTo x)
  · cases cc <;>
      exact Runs.jumps_when ⟨encode_word_operand (fun _ => rfl) x, rfl, rfl, rfl⟩ (jumpTo_transfersTo x)
  · exact Runs.jumps ⟨rfl, rfl, rfl, rfl⟩ jumpToHl_transfersTo
  · exact Runs.jumps ⟨rfl, rfl, rfl, rfl⟩ (jumpRelative_transfersTo e)
  · cases cc <;> exact Runs.jumps_when ⟨rfl, rfl, rfl, rfl⟩ (jumpRelative_transfersTo e)

/-- Settles O28: callTo past three bytes, alone and under each condition, and past one byte to each 8y. -/
theorem callsAndRestarts : Obligations.CallsAndRestarts := by
  refine ⟨fun x => ?_, fun cc x => ?_, fun y => ?_⟩
  · exact Runs.jumps ⟨encode_word_operand (fun _ => rfl) x, rfl, rfl, rfl⟩ (callTo_transfersTo 3 x)
  · cases cc <;>
      exact Runs.jumps_when ⟨encode_word_operand (fun _ => rfl) x, rfl, rfl, rfl⟩ (callTo_transfersTo 3 x)
  · fin_cases y <;> exact Runs.jumps ⟨rfl, rfl, rfl, rfl⟩ (callTo_transfersTo 1 _)

/-- Settles O29: returnFromCall, alone and under each condition. -/
theorem returns : Obligations.Returns := by
  refine ⟨?_, fun cc => ?_⟩
  · exact Runs.jumps ⟨rfl, rfl, rfl, rfl⟩ returnFromCall_transfersTo
  · cases cc <;> exact Runs.jumps_when ⟨rfl, rfl, rfl, rfl⟩ returnFromCall_transfersTo

/-- Settles O30: the return with its swap. -/
theorem returnFromInterruptSwapsIme : Obligations.ReturnFromInterruptSwapsIme :=
  Runs.jumps ⟨rfl, rfl, rfl, rfl⟩ returnFromInterrupt_transfersTo

end Sys2Proof.Machine
end

section
/-! PROOFS. System instructions and the opcodes without an entry (44_system.md R159 to R165). -/

namespace Sys2Proof.Machine

open Sys2Proof.Spec

/-! NOP, DI and EI. -/

/-- Settles O31: doNothing is the identity, and setIme is the update of IME. -/
theorem nopAndInterruptEnable : Obligations.NopAndInterruptEnable := by
  refine ⟨?_, ?_, ?_⟩
  · exact Runs.completes (body := doNothing) ⟨rfl, rfl, rfl, rfl⟩ (fun _ _ => rfl) rfl
  · exact Runs.completes (body := setIme false) ⟨rfl, rfl, rfl, rfl⟩ (fun _ _ => rfl) rfl
  · exact Runs.completes (body := setIme true) ⟨rfl, rfl, rfl, rfl⟩ (fun _ _ => rfl) rfl

/-! HALT and STOP. -/

theorem haltOrStop_of_nop {s : State} (h : s.params.haltStop = .nop) (i : Instr) :
    haltOrStop i s = .next (passed i.opcode i.size s) := by
  rw [haltOrStop, h]
  exact complete_eq_passed (body := doNothing) (fun _ _ => rfl) i s

theorem exec_halt_of_nop {s : State} (h : s.params.haltStop = .nop) : exec .halt s = .next (passed 0x76 1 s) :=
  haltOrStop_of_nop h .halt

theorem exec_stop_of_nop {s : State} (h : s.params.haltStop = .nop) (n : Byte) :
    exec (.stop n) s = .next (passed 0x10 2 s) := by
  have hop : (Instr.stop n).opcode = 0x10 := rfl
  have hsize : (Instr.stop n).size = 2 := by
    rw [Instr.size, hop]
    rfl
  have hexec : exec (.stop n) s = _ := haltOrStop_of_nop h (.stop n)
  rwa [hop, hsize] at hexec

theorem exec_halt_of_fault {s : State} (h : s.params.haltStop = .fault) :
    exec .halt s = .next (s.raiseFault .unimplementedOpcode 0x76 s.pc) :=
  exec_of_faults ((faults_iff s.params 0x76).mpr (.inr ⟨by decide, h⟩))

/-- What fetching STOP leaves: its second byte is read, by MemRead, unless the policy is FAULT (R163). -/
theorem fetch_stop_state {s : State} (hop : (s.memRead s.pc).1 = 0x10) :
    (fetch s).2 = if s.params.haltStop = .fault then (s.memRead s.pc).2
      else ((s.memRead s.pc).2.memRead (s.pc + 1)).2 := by
  split
  · next hpolicy =>
    have hfaults : faults s.params (s.memRead s.pc).1 = true := by
      rw [hop]
      exact (faults_iff _ _).mpr (.inr ⟨by decide, hpolicy⟩)
    rw [fetch_of_faults hfaults]
  · next hpolicy =>
    have hread : immediatesRead s.params 0x10 = 1 := immediatesRead_eq fun hstop => hpolicy hstop.2
    simp only [fetch, hop, hread]

/-- Settles O32: the meaning of both by the policy, and the fetch of STOP. -/
theorem haltAndStopFollowThePolicy : Obligations.HaltAndStopFollowThePolicy := by
  refine ⟨rfl, rfl, fun _ => rfl, rfl, rfl, fun s hnop => ?_, fun s hfault => ?_, fun s hop => ?_⟩
  · exact ⟨exec_halt_of_nop hnop, exec_stop_of_nop hnop⟩
  · exact ⟨exec_halt_of_fault hfault, exec_stop_of_fault hfault⟩
  · exact fetch_stop_state hop

/-! PREFIX CB and the illegal bytes. -/

/-- An instruction whose byte has no size faults under either policy (30_encoding.md R88). -/
theorem exec_of_opSize_none {i : Instr} (h : opSize i.opcode = none) (s : State) :
    exec i s = .next (s.raiseFault .unimplementedOpcode i.opcode s.pc) :=
  exec_of_faults ((faults_iff _ _).mpr (.inl ((opSize_eq_none_iff _).mp h)))

/-- Settles O33: the tables give each byte, alone, to its instruction, and no size. -/
theorem excludedAndIllegalOpcodesFault : Obligations.ExcludedAndIllegalOpcodesFault := by
  intro p hp
  have htables : encode p.1 = [p.2] ∧ opSize p.2 = none := by
    revert p
    decide
  obtain ⟨hencode, hsize⟩ := htables
  have hop : p.1.opcode = p.2 := by rw [Instr.opcode, hencode, List.headD_cons]
  refine ⟨hencode, hsize, fun s => ?_⟩
  have hexec := exec_of_opSize_none (hop ▸ hsize) s
  rwa [hop] at hexec

end Sys2Proof.Machine
end

section
/-! PROOFS. Where the machine stops and where a fault comes from (60_exceptions.md R166 to R168): the lookup of the
CPU step and the interrupt check are the two places that store a record. -/

namespace Sys2Proof.Machine

open Sys2Proof.Spec

theorem step_of_fault {s : State} {r : FaultRecord} (h : s.fault = some r) : step s = .fault (.machineFaulted r) := by
  rw [step, h]

theorem step_of_no_fault {s : State} (h : s.fault = none) : ∃ t, step s = .next t := by
  obtain ⟨u, hexec, -⟩ := exec_next (fetch s).1 (fetch s).2
  exact ⟨_, step_of_fetch h rfl hexec⟩

/-- Settles O44: exec always answers a next state, so only the record stops a step. -/
theorem onlyARecordedFaultStopsTheMachine : Obligations.OnlyARecordedFaultStopsTheMachine := by
  intro s
  split
  · next h => exact step_of_fault h
  · next h => exact step_of_no_fault h

/-- After a CPU step without a fault the other agents act. -/
theorem State.finishIteration_of_no_fault {s : State} (h : s.fault = none) (i : Instr) :
    s.finishIteration i = (s.ppuStep (cyclesOf s.params i.opcode)).externalRequests.handleInterrupts := by
  simp [State.finishIteration, h]

theorem State.ppuStep_fault (s : State) (c : Nat) : (s.ppuStep c).fault = s.fault := by
  rw [State.ppuStep_eq]

theorem State.externalRequests_fault (s : State) : s.externalRequests.fault = s.fault := rfl

theorem State.takeInterrupt_fault (s : State) (n : Nat) : (s.takeInterrupt n).fault = s.fault := by
  rw [State.takeInterrupt_eq]

/-- The check raises UndefinedInterruptSource and no other fault (60_exceptions.md R168, R171). -/
theorem State.handleInterrupts_of_new_fault {s : State} {r : FaultRecord} (hs : s.fault = none)
    (h : s.handleInterrupts.fault = some r) :
    s.ime = true ∧ s.peek ifAddr &&& s.peek ieAddr ≠ 0 ∧ s.peek ifAddr &&& s.peek ieAddr &&& 0x1F = 0 ∧
      r = ⟨.undefinedInterruptSource, s.peek ifAddr &&& s.peek ieAddr, s.pc⟩ ∧
      s.handleInterrupts = s.raiseFault .undefinedInterruptSource (s.peek ifAddr &&& s.peek ieAddr) s.pc := by
  rcases s.handleInterrupts_cases with heq | ⟨hime, hpending, hhigh, heq⟩ | ⟨-, n, -, heq⟩
  · cases hs.symm.trans (heq ▸ h)
  · rw [heq, State.raiseFault_fault] at h
    exact ⟨hime, hpending, hhigh, (Option.some.inj h).symm, heq⟩
  · rw [heq, State.takeInterrupt_fault, hs] at h
    cases h

/-- The CPU step raises no fault where the fetched byte does not fault at lookup. -/
theorem exec_fetch_fault {s u : State} (hfaults : faults s.params (s.memRead s.pc).1 = false)
    (hexec : exec (fetch s).1 (fetch s).2 = .next u) : u.fault = s.fault := by
  have hfetch := fetch_effect s
  obtain ⟨v, hv, hfault, -⟩ := exec_of_not_faults (i := (fetch s).1) (s := (fetch s).2)
    (by rwa [opcode_fetch, hfetch.params])
  cases hexec.symm.trans hv
  exact hfault.trans hfetch.fault

/-- Settles O45: by the lookup's verdict on the byte at PC; where it passes, the record is the interrupt check's. -/
theorem faultsComeFromLookupOrInterruptCheck : Obligations.FaultsComeFromLookupOrInterruptCheck := by
  intro s t r hs hstep hr
  cases hfaults : faults s.params (s.memRead s.pc).1 with
  | true =>
    rw [unimplementedOpcodeFaultIsPrecise s hs ((faults_iff _ _).mp hfaults)] at hstep
    cases hstep
    cases hr
    exact .inl ⟨rfl, rfl⟩
  | false =>
    obtain ⟨-, u, hexec, rfl⟩ := step_next hstep
    have hu : u.fault = none := (exec_fetch_fault hfaults hexec).trans hs
    rw [State.finishIteration_of_no_fault hu] at hr ⊢
    obtain ⟨hime, hpending, hhigh, rfl, heq⟩ := State.handleInterrupts_of_new_fault
      ((State.externalRequests_fault _).trans ((u.ppuStep_fault _).trans hu)) hr
    rw [heq]
    exact .inr ⟨rfl, hime, hpending, hhigh⟩

end Sys2Proof.Machine
end

section
/-! PROOFS. The interrupt check, dispatch and the way back (60_exceptions.md R169 to R176), and the collaborators'
requests (R192). -/

namespace Sys2Proof.Machine

open Sys2Proof.Spec

/-! The check. -/

theorem lowestSource_eq {pending : Byte} {n : Nat} (hn : n < 5) (hset : pending.getLsbD n = true)
    (hlower : ∀ m < n, pending.getLsbD m = false) : lowestSource pending = n := by
  unfold lowestSource
  interval_cases n
  · rw [if_pos hset]
  · simp only [hlower 0, hset, Nat.reduceLT, Bool.false_eq_true, if_false, if_true]
  · simp only [hlower 0, hlower 1, hset, Nat.reduceLT, Bool.false_eq_true, if_false, if_true]
  · simp only [hlower 0, hlower 1, hlower 2, hset, Nat.reduceLT, Bool.false_eq_true, if_false, if_true]
  · simp only [hlower 0, hlower 1, hlower 2, hlower 3, Nat.reduceLT, Bool.false_eq_true, if_false]

/-- A source among bits 0..4 survives the mask of R169. -/
theorem and_1F_ne_zero {pending : Byte} {n : Nat} (hn : n < 5) (hset : pending.getLsbD n = true) :
    pending &&& 0x1F ≠ 0 := by
  intro hzero
  have hmask : (0x1F : Byte).getLsbD n = true := by
    interval_cases n <;> rfl
  have hbit : (pending &&& 0x1F).getLsbD n = true := by rw [BitVec.getLsbD_and, hset, hmask, Bool.and_self]
  rw [hzero] at hbit
  exact absurd (BitVec.getLsbD_zero.symm.trans hbit) Bool.false_ne_true

theorem State.handleInterrupts_of_source {s : State} {n : Nat} (hn : n < 5) (hime : s.ime = true)
    (hset : (s.peek ifAddr &&& s.peek ieAddr).getLsbD n = true)
    (hlower : ∀ m < n, (s.peek ifAddr &&& s.peek ieAddr).getLsbD m = false) :
    s.handleInterrupts = s.takeInterrupt n := by
  have hmasked := and_1F_ne_zero hn hset
  have hpending : s.peek ifAddr &&& s.peek ieAddr ≠ 0 := fun h => hmasked (by rw [h]; rfl)
  simp only [State.handleInterrupts, hime, hpending, hmasked, lowestSource_eq hn hset hlower, beq_iff_eq,
    Bool.not_true, Bool.false_or, if_false]

theorem State.handleInterrupts_of_undefined {s : State} (hime : s.ime = true)
    (hpending : s.peek ifAddr &&& s.peek ieAddr ≠ 0) (hhigh : s.peek ifAddr &&& s.peek ieAddr &&& 0x1F = 0) :
    s.handleInterrupts = s.raiseFault .undefinedInterruptSource (s.peek ifAddr &&& s.peek ieAddr) s.pc := by
  simp only [State.handleInterrupts, hime, hpending, hhigh, beq_iff_eq, Bool.not_true, Bool.false_or, beq_self_eq_true,
    if_false, if_true]

/-- A dispatch in the statement's terms (R171). -/
theorem State.takeInterrupt_eq_push (s : State) (n : Nat) :
    let p := push s.pc { s with prevIme := s.ime, ime := false }
    s.takeInterrupt n =
      { p with
        mem := p.mem.write 0xFF0F (p.peek 0xFF0F &&& ~~~(1#8 <<< n))
        pc := BitVec.ofNat 16 (0x0040 + 8 * n)
        cycles := p.cycles + s.params.dispatchCycles } := by
  have hparams : (push s.pc { s with prevIme := s.ime, ime := false }).params = s.params := by
    rw [← State.push16_eq_push, State.push16_params]
  simp only [State.takeInterrupt, State.push16_eq_push, State.poke, hparams]
  rfl

/-- Settles O47: one lemma per outcome of the check. -/
theorem interruptCheckDispatchesTheLowestSource : Obligations.InterruptCheckDispatchesTheLowestSource := by
  intro s
  refine ⟨fun hidle => ?_, fun hime hpending hhigh => ?_, fun n hn hime hset hlower => ?_⟩
  · refine State.handleInterrupts_of_idle fun ⟨hime, hpending⟩ => ?_
    rcases hidle with h | h
    · exact absurd (h.symm.trans hime) Bool.false_ne_true
    · exact hpending h
  · exact State.handleInterrupts_of_undefined hime hpending hhigh
  · exact (State.handleInterrupts_of_source hn hime hset hlower).trans (s.takeInterrupt_eq_push n)

/-! The way back. -/

theorem State.takeInterrupt_ime (s : State) (n : Nat) : (s.takeInterrupt n).ime = false := by
  rw [State.takeInterrupt_eq]

theorem State.takeInterrupt_prevIme (s : State) (n : Nat) : (s.takeInterrupt n).prevIme = s.ime := by
  rw [State.takeInterrupt_eq]

theorem State.takeInterrupt_sp (s : State) (n : Nat) : (s.takeInterrupt n).sp = s.sp - 2 := by
  rw [State.takeInterrupt_eq]

theorem plain_takeInterrupt (s : State) (n : Nat) (x : Word) : plain (s.takeInterrupt n) x ↔ plain s x := by
  rw [State.takeInterrupt_eq]
  exact Iff.rfl

/-- Besides IF a dispatch writes what its push writes. -/
theorem State.peek_takeInterrupt_other {x : Word} (h : x ≠ ifAddr) (s : State) (n : Nat) :
    (s.takeInterrupt n).peek x = (push s.pc { s with prevIme := s.ime, ime := false }).peek x := by
  rw [← State.push16_eq_push]
  exact State.peek_poke_other h _ _

/-- A dispatch clears the bit of its source in IF. -/
theorem State.takeInterrupt_clears_if {s : State} (hs : s.memoryCanonical) (n : Nat) :
    ((s.takeInterrupt n).peek ifAddr).getLsbD n = false := by
  have hpushed := State.push16_wf (s := { s with prevIme := s.ime, ime := false }) hs s.pc
  have hpeek : (s.takeInterrupt n).peek ifAddr = _ := State.peek_poke_same hpushed ifAddr _
  rw [hpeek, BitVec.getLsbD_and, BitVec.getLsbD_not, BitVec.getLsbD_shiftLeft]
  simp

/-- After a dispatch through plain memory off IF the stack holds the interrupted PC. -/
theorem popped_takeInterrupt {s : State} (hs : s.memoryCanonical) (hhi : plain s (s.sp - 1))
    (hlo : plain s (s.sp - 2)) (hhiIf : s.sp - 1 ≠ ifAddr) (hloIf : s.sp - 2 ≠ ifAddr) (n : Nat) :
    popped (s.takeInterrupt n) = s.pc := by
  have hsp := s.takeInterrupt_sp n
  have hnext : s.sp - 2 + 1 = s.sp - 1 := by bv_omega
  calc popped (s.takeInterrupt n)
      = (s.takeInterrupt n).peek (s.sp - 1) ++ (s.takeInterrupt n).peek (s.sp - 2) := by
        rw [popped_of_plain, hsp, hnext]
        · rwa [hsp, plain_takeInterrupt]
        · rwa [hsp, hnext, plain_takeInterrupt]
    _ = high s.pc ++ low s.pc := by
        rw [State.peek_takeInterrupt_other hhiIf, State.peek_takeInterrupt_other hloIf]
        exact congrArg₂ (· ++ ·) (peek_push_high (s := { s with prevIme := s.ime, ime := false }) hs hhi hlo s.pc)
          (peek_push_low (s := { s with prevIme := s.ime, ime := false }) hs hhi hlo s.pc)
    _ = s.pc := high_append_low s.pc

theorem pop_ime (s : State) : (pop s).ime = s.ime := s.pop16_ime

theorem pop_prevIme (s : State) : (pop s).prevIme = s.prevIme := s.pop16_prevIme

theorem peek_pop (s : State) (x : Word) : (pop s).peek x = s.peek x := congrArg (·.read x.toNat) s.pop16_mem

/-- Settles O48: RETI and RET pop the pushed PC, and RETI swaps the pair that the dispatch left. -/
theorem returnAfterDispatch : Obligations.ReturnAfterDispatch := by
  intro s n hn hs hime hhi hlo hhiIf hloIf
  obtain ⟨-, -, hreti⟩ := returnFromInterruptSwapsIme
  obtain ⟨⟨-, -, hret⟩, -⟩ := returns
  have hpc : popped (s.takeInterrupt n) = s.pc := popped_takeInterrupt hs hhi hlo hhiIf hloIf n
  have hsp : (s.takeInterrupt n).sp + 2 = s.sp := by rw [s.takeInterrupt_sp, BitVec.sub_add_cancel]
  have hprev : (s.takeInterrupt n).prevIme = true := (s.takeInterrupt_prevIme n).trans hime
  refine ⟨_, _, hreti _, hret _, hpc, hsp, hprev, s.takeInterrupt_ime n, ?_, hpc, hsp, ?_, ?_⟩
  · exact (congrArg (·.getLsbD n) (peek_pop _ _)).trans (State.takeInterrupt_clears_if hs n)
  · exact (pop_ime _).trans (s.takeInterrupt_ime n)
  · exact (pop_prevIme _).trans hprev

theorem exec_ei_ime (s : State) : ∃ t, exec .ei s = .next t ∧ t.ime = true ∧ t.prevIme = s.prevIme := by
  obtain ⟨-, -, -, -, hexec⟩ := nopAndInterruptEnable
  exact ⟨_, hexec s, rfl, rfl⟩

theorem exec_reti_ime (s : State) : ∃ t, exec .reti s = .next t ∧ t.ime = s.prevIme ∧ t.prevIme = s.ime := by
  obtain ⟨-, -, hexec⟩ := returnFromInterruptSwapsIme
  exact ⟨_, hexec s, rfl, rfl⟩

/-- Settles O49: dispatch moves IME into prev_IME and clears it, EI sets it, RETI swaps the two. -/
theorem nestedInterruptsLeaveImeClear : Obligations.NestedInterruptsLeaveImeClear := by
  intro s m n hime a
  obtain ⟨b, hb, hbIme, hbPrev⟩ := exec_ei_ime a
  obtain ⟨d, hd, hdIme, hdPrev⟩ := exec_reti_ime (b.takeInterrupt n)
  obtain ⟨e, he, heIme, hePrev⟩ := exec_reti_ime d
  rw [State.takeInterrupt_prevIme, hbIme] at hdIme
  rw [State.takeInterrupt_ime] at hdPrev
  have haPrev : a.prevIme = true := (s.takeInterrupt_prevIme m).trans hime
  refine ⟨b, d, e, hb, hd, he, ?_, ?_, ?_, ?_, ?_⟩
  · rw [s.takeInterrupt_ime m, haPrev]
  · rw [hbIme, hbPrev, haPrev]
  · rw [State.takeInterrupt_ime, State.takeInterrupt_prevIme, hbIme]
  · rw [hdIme, hdPrev]
  · rw [heIme, hePrev, hdIme, hdPrev]

/-! The collaborators' requests. -/

/-- The bits a draw sets in IF (R192). -/
theorem getLsbD_requests (flags : Byte) (draw : ExtIrq) (k : Nat) (hk : k < 8) :
    (flags ||| ((if draw.timer then 0x04 else 0) ||| (if draw.serial then 0x08 else 0) |||
        (if draw.joypad then 0x10 else 0))).getLsbD k =
      (flags.getLsbD k || (decide (k = 2) && draw.timer) || (decide (k = 3) && draw.serial) ||
        (decide (k = 4) && draw.joypad)) := by
  obtain ⟨timer, serial, joypad⟩ := draw
  simp only [BitVec.getLsbD_or, Bool.or_assoc]
  refine congrArg _ ?_
  revert timer serial joypad k
  decide

/-- Settles O50: the requests poke IF alone, with the drawn bits added. -/
theorem collaboratorRequestsSetIfBits : Obligations.CollaboratorRequestsSetIfBits := by
  intro s hs draw
  refine ⟨s.externalRequests_eq, fun x hx => State.peek_externalRequests_other hx s, fun k hk => ?_⟩
  have hpeek : s.externalRequests.peek 0xFF0F = _ := State.peek_poke_same hs ifAddr _
  rw [hpeek]
  exact getLsbD_requests _ draw k hk

end Sys2Proof.Machine
end

section
/-! PROOFS. The PPU step (60_exceptions.md R178 to R181): its one transition, then STAT, LY and the VBlank request. -/

namespace Sys2Proof.Machine

open Sys2Proof.Spec

/-- Settles O51: the mode chooses the transition, and the parts of modeStep are the arms of the statement. -/
theorem ppuStepTakesAtMostOneTransition : Obligations.PpuStepTakesAtMostOneTransition := by
  intro s c
  refine congrArg State.writeStatLy ?_
  cases s.mode with
  | oamSearch => simp only [State.modeStep]
  | pixelTransfer => simp only [State.modeStep]
  | hblank =>
    simp only [State.modeStep]
    rfl
  | vblank =>
    simp only [State.modeStep]
    rfl

/-! What the mode machine leaves in memory. -/

/-- Entering VBLANK from HBLANK makes the request (R181). -/
theorem State.modeStep_mem_of_entry {s : State} (hbefore : s.mode = .hblank) (hafter : s.modeStep.mode = .vblank) :
    s.modeStep.mem = s.mem.write ifAddr.toNat (s.peek ifAddr ||| 0x01) := by
  simp only [State.modeStep, hbefore, State.hblankStep] at hafter ⊢
  split at hafter
  · split at hafter
    · cases hafter
    · next hdue hlast => rw [if_pos hdue, if_neg hlast]; rfl
  · cases hbefore.symm.trans hafter

theorem State.peek_modeStep_other {x : Word} (h : x ≠ ifAddr) (s : State) : s.modeStep.peek x = s.peek x := by
  unfold State.peek
  rcases s.modeStep_mem with hmem | ⟨-, -, hmem⟩ <;> rw [hmem]
  exact State.peek_poke_other h s _

theorem State.modeStep_params (s : State) : s.modeStep.params = s.params := by
  rw [State.modeStep_eq]

theorem State.modeStep_wf {s : State} (hs : s.mem.wf = true) : s.modeStep.mem.wf = true := by
  rcases s.modeStep_mem with hmem | ⟨-, -, hmem⟩ <;> rw [hmem]
  · exact hs
  · exact State.poke_wf hs _ _

theorem State.peek_modeStep_if {s : State} (hs : s.memoryCanonical) :
    s.modeStep.peek ifAddr = s.peek ifAddr ||| (if s.mode = .hblank ∧ s.modeStep.mode = .vblank then 1 else 0) := by
  unfold State.peek
  split
  · next hentry =>
    obtain ⟨hbefore, hafter⟩ := hentry
    rw [State.modeStep_mem_of_entry hbefore hafter]
    exact State.peek_poke_same hs ifAddr _
  · next hentry =>
    rcases s.modeStep_mem with hmem | ⟨hbefore, hafter, -⟩
    · rw [hmem]
      exact BitVec.or_zero.symm
    · exact absurd ⟨hbefore, hafter⟩ hentry

/-! STAT and LY. -/

/-- The byte's low three bits as the statement writes them (R180). -/
theorem statByte_low (compare : Prop) [Decidable compare] (m : Mode) :
    BitVec.ofNat 8 (b2i (decide compare) * 4 + m.number) =
      (if compare then 4 else 0) ||| (match m with
        | .hblank => 0
        | .vblank => 1
        | .oamSearch => 2
        | .pixelTransfer => 3) := by
  by_cases h : compare <;> cases m <;> simp [h, b2i, Mode.number]

theorem State.statByte_eq (s : State) :
    s.statByte =
      (match s.params.statWrite with
        | .preserveUpper => s.peek 0xFF41 &&& 0xF8
        | .overwrite => 0) |||
        (if s.ly = (s.peek 0xFF45).toNat then 4 else 0) |||
        (match s.mode with
          | .hblank => 0
          | .vblank => 1
          | .oamSearch => 2
          | .pixelTransfer => 3) := by
  rw [BitVec.or_assoc, ← statByte_low]
  rfl

theorem State.peek_writeStatLy_stat {s : State} (hs : s.mem.wf = true) : s.writeStatLy.peek statAddr = s.statByte :=
  (State.peek_poke_other (by decide) _ _).trans (State.peek_poke_same hs _ _)

theorem State.peek_writeStatLy_ly {s : State} (hs : s.mem.wf = true) :
    s.writeStatLy.peek lyAddr = BitVec.ofNat 8 s.ly :=
  State.peek_poke_same (State.poke_wf hs _ _) _ _

theorem State.peek_writeStatLy_other {x : Word} (hstat : x ≠ statAddr) (hly : x ≠ lyAddr) (s : State) :
    s.writeStatLy.peek x = s.peek x :=
  (State.peek_poke_other hly _ _).trans (State.peek_poke_other hstat _ _)

/-- Settles O52: the mode machine writes IF alone, and STAT and LY are written after it. -/
theorem ppuStepWritesStatLyAndTheRequest : Obligations.PpuStepWritesStatLyAndTheRequest := by
  intro s c hs t
  have hs' : { s with acc := s.acc + c }.memoryCanonical := hs
  have hm := State.modeStep_wf hs'
  refine ⟨?_, State.peek_writeStatLy_ly hm, ?_, fun x hx => ?_, s.ppuStep_eq c⟩
  · have hstat := State.peek_modeStep_other (x := 0xFF41) (by decide) { s with acc := s.acc + c }
    have hlyc := State.peek_modeStep_other (x := 0xFF45) (by decide) { s with acc := s.acc + c }
    have hbyte := (State.peek_writeStatLy_stat hm).trans (State.statByte_eq _)
    rw [hstat, hlyc, State.modeStep_params] at hbyte
    exact hbyte
  · exact (State.peek_writeStatLy_other (by decide) (by decide) _).trans (State.peek_modeStep_if hs')
  · simp only [rewritten, not_or] at hx
    obtain ⟨hif, hstat, hly⟩ := hx
    exact State.peek_ppuStep_other hif hstat hly s c

end Sys2Proof.Machine
end

section
/-! PROOFS. The screen in the statements' terms (60_exceptions.md R184, R186 to R189), and sprite selection (R190). -/

namespace Sys2Proof.Machine

open Sys2Proof.Spec

/-! Reads of the renderer in the statements' terms. -/

theorem State.oam_eq (s : State) (i k : Nat) : s.oam i k = oamByte s i k := rfl

theorem State.colour_eq (s : State) (ci : ColourIndex) : s.colour ci = shade s.params.palette ci := by
  have hci : ci = 0 ∨ ci = 1 ∨ ci = 2 ∨ ci = 3 := by
    revert ci
    decide
  rcases hci with rfl | rfl | rfl | rfl <;> rfl

theorem ofNat_two_bits (hi lo : Bool) :
    BitVec.ofNat 2 (b2i hi * 2 + b2i lo) = BitVec.ofBool hi ++ BitVec.ofBool lo := by
  revert hi lo
  decide

theorem State.tileCi_eq (s : State) (t r p : Nat) : s.tileCi t r p = tilePixel s t r p := ofNat_two_bits _ _

/-- The biased signed index counts from 0x9000 below 128 and from 0x8800 above (R188). -/
theorem bgTileAddr_eq (lcdc idx : Byte) : bgTileAddr lcdc idx = tileBase lcdc idx := by
  have hidx := idx.isLt
  unfold bgTileAddr tileBase
  rw [BitVec.toInt_eq_toNat_cond]
  split
  · rfl
  · split <;> split <;> omega

theorem State.bgColour_eq (s : State) (lcdc : Byte) (x y : Nat) : s.bgColour lcdc y x = background s lcdc x y := by
  unfold State.bgColour background
  rw [State.tileCi_eq, bgTileAddr_eq]
  rfl

theorem State.spriteCovers_iff {s : State} {y h i : Nat} (hi : i < 40) :
    s.spriteCovers y h i = true ↔ covers s y h i := by
  unfold State.spriteCovers covers State.spriteTop
  rw [State.oam_eq, decide_eq_true_iff]
  omega

/-! The stable sort. -/

/-- Entries in ascending key, those of one key in ascending index (R190). -/
def keyOrder (key : Nat → Nat) (i j : Nat) : Prop := key i < key j ∨ (key i = key j ∧ i < j)

theorem insertByKey_eq (key : Nat → Nat) (i : Nat) (js : List Nat) :
    insertByKey key i js = js.orderedInsert (fun a b => key a ≤ key b) i := by
  induction js with
  | nil => rfl
  | cons j js ih => rw [insertByKey, List.orderedInsert_cons, ih]

theorem sortByKey_eq (key : Nat → Nat) (is : List Nat) :
    sortByKey key is = is.insertionSort (fun a b => key a ≤ key b) := by
  induction is with
  | nil => rfl
  | cons i is ih => rw [sortByKey, insertByKey_eq, ih, List.insertionSort_cons]

theorem sortByKey_perm (key : Nat → Nat) (is : List Nat) : (sortByKey key is).Perm is := by
  rw [sortByKey_eq]
  exact List.perm_insertionSort _ is

theorem insertByKey_pairwise {key : Nat → Nat} {i : Nat} {js : List Nat} (hjs : js.Pairwise (keyOrder key))
    (hi : ∀ j ∈ js, i < j) : (insertByKey key i js).Pairwise (keyOrder key) := by
  induction js with
  | nil => exact List.pairwise_singleton _ _
  | cons j js ih =>
    obtain ⟨hj, htail⟩ := List.pairwise_cons.mp hjs
    rw [insertByKey]
    split
    · next hle =>
      refine List.pairwise_cons.mpr ⟨fun k hk => ?_, hjs⟩
      have hik := hi k hk
      rcases List.mem_cons.mp hk with rfl | hk
      · unfold keyOrder
        omega
      · have hjk := hj k hk
        unfold keyOrder at hjk ⊢
        omega
    · next hlt =>
      refine List.pairwise_cons.mpr ⟨fun k hk => ?_, ih htail fun k hk => hi k (List.mem_cons_of_mem j hk)⟩
      rw [insertByKey_eq, List.mem_orderedInsert] at hk
      rcases hk with rfl | hk
      · exact .inl (not_le.mp hlt)
      · exact hj k hk

/-- Sorting entries in ascending index by a key orders them by key, then index. -/
theorem sortByKey_pairwise (key : Nat → Nat) {is : List Nat} (his : is.Pairwise (· < ·)) :
    (sortByKey key is).Pairwise (keyOrder key) := by
  induction is with
  | nil => exact List.Pairwise.nil
  | cons i is ih =>
    obtain ⟨hi, htail⟩ := List.pairwise_cons.mp his
    exact insertByKey_pairwise (ih htail) fun j hj => hi j ((sortByKey_perm key is).mem_iff.mp hj)

/-! The selection. -/

/-- The entries that cover the line, sorted by X (R190). -/
def State.spritesSorted (s : State) (y h : Nat) : List Nat :=
  sortByKey (fun i => (s.oam i 1).toNat) ((List.range 40).filter (s.spriteCovers y h))

theorem State.spritesOn_eq_take (s : State) (y h : Nat) : s.spritesOn y h = (s.spritesSorted y h).take 10 := rfl

theorem State.mem_spritesSorted {s : State} {y h i : Nat} : i ∈ s.spritesSorted y h ↔ covers s y h i := by
  rw [State.spritesSorted, (sortByKey_perm _ _).mem_iff, List.mem_filter, List.mem_range]
  constructor
  · rintro ⟨hi, hcovers⟩
    exact (State.spriteCovers_iff hi).mp hcovers
  · intro hcovers
    have hi : i < 40 := hcovers.1
    exact ⟨hi, (State.spriteCovers_iff hi).mpr hcovers⟩

theorem before_iff_keyOrder (s : State) (i j : Nat) : before s i j ↔ keyOrder (fun k => (s.oam k 1).toNat) i j := by
  unfold before keyOrder
  rw [← BitVec.toNat_inj]
  rfl

theorem State.spritesSorted_pairwise (s : State) (y h : Nat) : (s.spritesSorted y h).Pairwise (before s) := by
  have hindices : ((List.range 40).filter (s.spriteCovers y h)).Pairwise (· < ·) := List.pairwise_lt_range.filter _
  exact (sortByKey_pairwise _ hindices).imp (before_iff_keyOrder s _ _).mpr

/-- Settles O55: the kept entries are the first ten of the sorted ones, and what is left out is among the rest. -/
theorem spriteSelectionKeepsTheTenFirst : Obligations.SpriteSelectionKeepsTheTenFirst := by
  intro s y h kept
  have htake : kept = (s.spritesSorted y h).take 10 := s.spritesOn_eq_take y h
  have hsplit : kept ++ (s.spritesSorted y h).drop 10 = s.spritesSorted y h := htake ▸ List.take_append_drop 10 _
  have hpairwise := s.spritesSorted_pairwise y h
  rw [← hsplit, List.pairwise_append] at hpairwise
  obtain ⟨hkept, -, hrest⟩ := hpairwise
  refine ⟨List.length_take_le 10 _, hkept, fun i hi => ?_, fun i hi hout => ?_⟩
  · exact State.mem_spritesSorted.mp (List.mem_of_mem_take hi)
  · have hdrop : i ∈ (s.spritesSorted y h).drop 10 := by
      have hmem := State.mem_spritesSorted.mpr hi
      rw [← hsplit, List.mem_append] at hmem
      exact hmem.resolve_left hout
    have hlength : 10 ≤ (s.spritesSorted y h).length := by
      have hpos := List.length_pos_of_mem hdrop
      rw [List.length_drop] at hpos
      omega
    exact ⟨List.length_take_of_le hlength, fun k hk => hrest k hk i hdrop⟩

end Sys2Proof.Machine
end

section
/-! PROOFS. The two passes of a render and the whole render (60_exceptions.md R185, R187, R188, R191; 10_state.md R36,
R37; 90_conflicts.md C9). -/

namespace Sys2Proof.Machine

open Sys2Proof.Spec

/-! A row of the framebuffer. -/

theorem pixel_setFbRow_same {s : State} (hs : s.screenShaped) {y : Nat} (hy : y < 144) (row : List Rgba) (x : Nat) :
    pixel (s.setFbRow y row) x y = row.getD x ⟨0, 0, 0, 0⟩ := by
  obtain ⟨hrows, -, -⟩ := hs
  have hstored : (s.fb.set y row).getD y [] = row := by
    rw [List.getD_eq_getElem _ _ (by rwa [List.length_set, hrows]), List.getElem_set_self]
  exact congrArg (List.getD · x _) hstored

theorem pixel_setFbRow_other {y y' : Nat} (h : y' ≠ y) (s : State) (row : List Rgba) (x : Nat) :
    pixel (s.setFbRow y row) x y' = pixel s x y' := by
  have hkept : (s.fb.set y row).getD y' [] = s.fb.getD y' [] := by
    rw [List.getD_eq_getElem?_getD, List.getElem?_set_ne h.symm, ← List.getD_eq_getElem?_getD]
  exact congrArg (List.getD · x _) hkept

theorem getD_map_range {α : Type} {n x : Nat} (hx : x < n) (f : Nat → α) (d : α) :
    ((List.range n).map f).getD x d = f x := by
  simp [hx]

theorem getD_set {α : Type} {row : List α} {x : Nat} (hx : x < row.length) (x' : Nat) (v d : α) :
    (row.set x' v).getD x d = if x' = x then v else row.getD x d := by
  rw [List.getD_eq_getElem _ _ (by rwa [List.length_set]), List.getElem_set, List.getD_eq_getElem _ _ hx]

/-! The background pass. -/

theorem backgroundPass_bgIndex (s : State) (lcdc : Byte) (y : Nat) {x : Nat} (hx : x < 160) :
    (s.backgroundPass y lcdc).bgIndex.getD x 0 = background s lcdc x y :=
  (getD_map_range hx _ _).trans (s.bgColour_eq lcdc x y)

theorem pixel_backgroundPass {s : State} (hs : s.screenShaped) (lcdc : Byte) {x y : Nat} (hx : x < 160) (hy : y < 144) :
    pixel (s.backgroundPass y lcdc) x y = shade s.params.palette (background s lcdc x y) := by
  have hrow : pixel (s.backgroundPass y lcdc) x y = _ := pixel_setFbRow_same hs hy _ x
  rw [hrow, List.map_map, getD_map_range hx, Function.comp_apply, State.bgColour_eq, State.colour_eq]

theorem pixel_backgroundPass_other {y y' : Nat} (h : y' ≠ y) (s : State) (lcdc : Byte) (x : Nat) :
    pixel (s.backgroundPass y lcdc) x y' = pixel s x y' :=
  pixel_setFbRow_other h s _ x

/-! Drawing over a row. -/

/-- Where each drawing leaves column x of a row of n pixels as it was or puts its own colour there, the last drawing
that puts one remains. -/
theorem getD_foldr_draw {α : Type} {n x : Nat} {d : Rgba} {draw : α → List Rgba → List Rgba}
    {put : α → Option ColourIndex} {colour : ColourIndex → Rgba} (hlength : ∀ a row, (draw a row).length = row.length)
    (hdraw : ∀ a row, row.length = n → (draw a row).getD x d = (put a).elim (row.getD x d) colour)
    (as : List α) {row : List Rgba} (hrow : row.length = n) :
    (as.foldr draw row).length = n ∧ (as.foldr draw row).getD x d = (as.findSome? put).elim (row.getD x d) colour := by
  induction as with
  | nil => exact ⟨hrow, rfl⟩
  | cons a as ih =>
    obtain ⟨hlen, hget⟩ := ih
    refine ⟨(hlength a _).trans hlen, ?_⟩
    rw [List.foldr_cons, hdraw a _ hlen, hget, List.findSome?_cons]
    cases put a <;> rfl

/-- Where at most one member answers, the search answers what it does. -/
theorem findSome?_of_unique {α β : Type} {as : List α} {g : α → Option β} {a : α} (ha : a ∈ as)
    (hothers : ∀ b, b ≠ a → g b = none) : as.findSome? g = g a := by
  cases hga : g a with
  | none =>
    refine List.findSome?_eq_none_iff.mpr fun b _ => ?_
    by_cases hb : b = a
    · rw [hb, hga]
    · exact hothers b hb
  | some v =>
    have hsome : (as.findSome? g).isSome = true := List.findSome?_isSome_iff.mpr ⟨a, ha, Option.isSome_of_eq_some hga⟩
    obtain ⟨b, hb⟩ := Option.isSome_iff_exists.mp hsome
    obtain ⟨c, -, hc⟩ := List.exists_of_findSome?_eq_some hb
    have hca : c = a := by
      by_contra hne
      cases (hothers c hne).symm.trans hc
    rw [hb, ← hc, hca, hga]

/-! One sprite. -/

theorem State.spriteRow_eq (s : State) (i y h : Nat) :
    s.spriteRow i y h =
      if (oamByte s i 3).getLsbD 6 then h - 1 - (y + 16 - (oamByte s i 0).toNat)
      else y + 16 - (oamByte s i 0).toNat := by
  have hrow : ((y : Int) - s.spriteTop i).toNat = y + 16 - (oamByte s i 0).toNat := by
    rw [State.spriteTop, State.oam_eq]
    omega
  rw [State.spriteRow, hrow]
  rfl

/-- Column p of a sprite is put, if at all, on the screen column p past its left edge. -/
theorem State.spritePixel_column {s : State} {i y h p x : Nat} {ci : ColourIndex}
    (hput : s.spritePixel i y h p = some (x, ci)) : x + 8 = (oamByte s i 1).toNat + p := by
  simp only [State.spritePixel, Option.ite_none_left_eq_some, Option.some.injEq, Prod.mk.injEq] at hput
  obtain ⟨hclip, -, -, hx, -⟩ := hput
  rw [State.spriteLeft, State.oam_eq] at hclip hx
  omega

/-- Two reasons to put nothing, one after the other, are their disjunction. -/
theorem ite_none_ite_none_some_eq_map {α β : Type} (clear behind : Prop) [Decidable clear] [Decidable behind]
    (f : α → β) (v : α) :
    (if clear then none else if behind then none else some (f v)) =
      (if clear ∨ behind then none else some v).map f := by
  by_cases hclear : clear <;> by_cases hbehind : behind <;> simp [hclear, hbehind]

/-- The column of a sprite that falls on screen column x puts what the statement says (R191). -/
theorem State.spritePixel_eq {s : State} {i y h p x : Nat} (hx : x < 160) (hp : p < 8)
    (hcolumn : x + 8 = (oamByte s i 1).toNat + p) :
    s.spritePixel i y h p = (spriteAt s (s.bgIndex.getD x 0) y h i x).map (fun ci => (x, ci)) := by
  have hsx : s.spriteLeft i + p = x := by
    rw [State.spriteLeft, State.oam_eq]
    omega
  have hcovers : (oamByte s i 1).toNat ≤ x + 8 ∧ x < (oamByte s i 1).toNat := by omega
  have hoffset : x + 8 - (oamByte s i 1).toNat = p := by omega
  have hvisible : ¬ ((x : Int) < 0 ∨ 160 ≤ (x : Int)) := by omega
  simp only [State.spritePixel, spriteAt, hsx, hoffset, if_pos hcovers, if_neg hvisible, Int.toNat_natCast,
    State.spriteRow_eq, State.tileCi_eq, State.spriteTile, State.oam_eq]
  exact ite_none_ite_none_some_eq_map _ _ _ _

/-- What column p of a sprite puts on screen column x. -/
def State.spriteColumn (s : State) (i y h x p : Nat) : Option ColourIndex :=
  (s.spritePixel i y h p).bind fun put => if put.1 = x then some put.2 else none

theorem State.spriteColumn_of_ne {s : State} {i y h x p : Nat} (hne : x + 8 ≠ (oamByte s i 1).toNat + p) :
    s.spriteColumn i y h x p = none := by
  unfold State.spriteColumn
  cases hput : s.spritePixel i y h p with
  | none => rfl
  | some put =>
    refine if_neg ?_
    rintro rfl
    exact hne (State.spritePixel_column hput)

theorem State.spriteColumn_of_eq {s : State} {i y h x p : Nat} (hx : x < 160) (hp : p < 8)
    (hcolumn : x + 8 = (oamByte s i 1).toNat + p) :
    s.spriteColumn i y h x p = spriteAt s (s.bgIndex.getD x 0) y h i x := by
  rw [State.spriteColumn, State.spritePixel_eq hx hp hcolumn]
  cases spriteAt s (s.bgIndex.getD x 0) y h i x with
  | none => rfl
  | some ci => exact if_pos rfl

/-- Of a sprite's eight columns at most one falls on screen column x. -/
theorem State.findSome?_spriteColumn (s : State) (i y h : Nat) {x : Nat} (hx : x < 160) :
    (List.range 8).reverse.findSome? (s.spriteColumn i y h x) = spriteAt s (s.bgIndex.getD x 0) y h i x := by
  by_cases hcovers : (oamByte s i 1).toNat ≤ x + 8 ∧ x < (oamByte s i 1).toNat
  · have hp : x + 8 - (oamByte s i 1).toNat < 8 := by omega
    rw [findSome?_of_unique (a := x + 8 - (oamByte s i 1).toNat) (by simpa using hp) fun p hne =>
      State.spriteColumn_of_ne (by omega)]
    exact State.spriteColumn_of_eq hx hp (by omega)
  · rw [spriteAt, if_neg hcovers]
    refine List.findSome?_eq_none_iff.mpr fun p hp => State.spriteColumn_of_ne ?_
    rw [List.mem_reverse, List.mem_range] at hp
    omega

/-- One column of draw_sprite: column p of a sprite on the row drawn so far (R191). -/
def State.drawColumn (s : State) (i y h p : Nat) (row : List Rgba) : List Rgba :=
  match s.spritePixel i y h p with
  | none => row
  | some (x, ci) => row.set x (s.colour ci)

/-- The loop of draw_sprite as a fold from the right: the column drawn last comes first. -/
theorem State.drawSprite_eq_foldr (s : State) (y h : Nat) (row : List Rgba) (i : Nat) :
    s.drawSprite y h row i = (List.range 8).reverse.foldr (s.drawColumn i y h) row :=
  List.foldl_eq_foldr_reverse

theorem State.drawColumn_length (s : State) (i y h p : Nat) (row : List Rgba) :
    (s.drawColumn i y h p row).length = row.length := by
  unfold State.drawColumn
  split
  · rfl
  · exact List.length_set

theorem State.drawColumn_getD (s : State) (i y h p : Nat) {row : List Rgba} {x : Nat} (hx : x < row.length) (d : Rgba) :
    (s.drawColumn i y h p row).getD x d = (s.spriteColumn i y h x p).elim (row.getD x d) s.colour := by
  unfold State.drawColumn State.spriteColumn
  cases s.spritePixel i y h p with
  | none => rfl
  | some put =>
    obtain ⟨x', ci⟩ := put
    rw [getD_set hx, Option.bind_some]
    split <;> rfl

theorem State.drawSprite_getD (s : State) (y h i : Nat) {row : List Rgba} (hrow : row.length = 160) {x : Nat}
    (hx : x < 160) (d : Rgba) :
    (s.drawSprite y h row i).getD x d =
      (spriteAt s (s.bgIndex.getD x 0) y h i x).elim (row.getD x d) (shade s.params.palette) := by
  rw [State.drawSprite_eq_foldr, (getD_foldr_draw (s.drawColumn_length i y h)
    (fun p row hlen => s.drawColumn_getD i y h p (hlen ▸ hx) d) _ hrow).2, State.findSome?_spriteColumn s i y h hx]
  exact congrArg _ (funext s.colour_eq)

/-! The sprite pass. -/

theorem pixel_spritePass {s : State} (hs : s.screenShaped) (lcdc : Byte) {x y : Nat} (hx : x < 160) (hy : y < 144) :
    pixel (s.spritePass y lcdc) x y =
      (spritesAt s lcdc (s.bgIndex.getD x 0) y x).elim (pixel s x y) (shade s.params.palette) := by
  have hrow : pixel (s.spritePass y lcdc) x y = _ := pixel_setFbRow_same hs hy _ x
  rw [hrow, List.foldl_reverse]
  exact (getD_foldr_draw (fun i row => s.drawSprite_length y _ row i)
    (fun i row hlen => s.drawSprite_getD y _ i hlen hx _) _ (State.fbRow_length hs hy)).2

theorem pixel_spritePass_other {y y' : Nat} (h : y' ≠ y) (s : State) (lcdc : Byte) (x : Nat) :
    pixel (s.spritePass y lcdc) x y' = pixel s x y' :=
  pixel_setFbRow_other h s _ x

/-! The whole render. -/

/-- A render of a visible line before its sprite pass: bg_index cleared, then the background pass if LCDC bit 0 is
set (R185). -/
def State.backgroundStage (s : State) : State :=
  if (s.peek 0xFF40).getLsbD 0 then
    { s with bgIndex := List.replicate 160 0 }.backgroundPass s.ly (s.peek 0xFF40)
  else { s with bgIndex := List.replicate 160 0 }

theorem State.renderScanline_of_hidden {s : State} (h : 144 ≤ s.ly) : s.renderScanline = s := if_pos h

theorem State.renderScanline_of_visible {s : State} (h : s.ly < 144) :
    s.renderScanline =
      if (s.peek 0xFF40).getLsbD 1 then s.backgroundStage.spritePass s.ly (s.peek 0xFF40)
      else s.backgroundStage :=
  if_neg (not_le.mpr h)

theorem State.backgroundStage_eq (s : State) :
    s.backgroundStage = { s with fb := s.backgroundStage.fb, bgIndex := s.backgroundStage.bgIndex } := by
  unfold State.backgroundStage
  split <;> rfl

theorem State.clearedBgIndex_screenShaped {s : State} (hs : s.screenShaped) :
    { s with bgIndex := List.replicate 160 0 }.screenShaped := by
  obtain ⟨hrows, hpixels, -⟩ := hs
  exact ⟨hrows, hpixels, List.length_replicate⟩

theorem State.backgroundStage_screenShaped {s : State} (hs : s.screenShaped) : s.backgroundStage.screenShaped := by
  unfold State.backgroundStage
  split
  · exact State.backgroundPass_screenShaped (State.clearedBgIndex_screenShaped hs) _ _
  · exact State.clearedBgIndex_screenShaped hs

theorem State.backgroundStage_bgIndex (s : State) {x : Nat} (hx : x < 160) :
    s.backgroundStage.bgIndex.getD x 0 =
      if (s.peek 0xFF40).getLsbD 0 then background s (s.peek 0xFF40) x s.ly else 0 := by
  unfold State.backgroundStage
  split
  · exact backgroundPass_bgIndex _ _ _ hx
  · exact List.getD_replicate 0 hx

theorem pixel_backgroundStage {s : State} (hs : s.screenShaped) {x : Nat} (hx : x < 160) (hly : s.ly < 144) :
    pixel s.backgroundStage x s.ly =
      if (s.peek 0xFF40).getLsbD 0 then shade s.params.palette (background s (s.peek 0xFF40) x s.ly)
      else pixel s x s.ly := by
  unfold State.backgroundStage
  split
  · exact pixel_backgroundPass (State.clearedBgIndex_screenShaped hs) _ hx hly
  · rfl

theorem pixel_backgroundStage_other {s : State} {y : Nat} (h : y ≠ s.ly) (x : Nat) :
    pixel s.backgroundStage x y = pixel s x y := by
  unfold State.backgroundStage
  split
  · exact pixel_backgroundPass_other h _ _ x
  · rfl

/-- Sprites read memory, the mode and the parameters, which the background pass leaves. -/
theorem spritesAt_backgroundStage (s : State) (lcdc : Byte) (below : ColourIndex) (y x : Nat) :
    spritesAt s.backgroundStage lcdc below y x = spritesAt s lcdc below y x := by
  rw [State.backgroundStage_eq]
  rfl

/-- A sprite pass leaves bg_index, so a render's is the background's. -/
theorem State.renderScanline_bgIndex {s : State} (h : s.ly < 144) :
    s.renderScanline.bgIndex = s.backgroundStage.bgIndex := by
  rw [State.renderScanline_of_visible h]
  split <;> rfl

theorem pixel_renderScanline {s : State} (hs : s.screenShaped) {x : Nat} (hx : x < 160) (hly : s.ly < 144) :
    pixel s.renderScanline x s.ly =
      (if (s.peek 0xFF40).getLsbD 1 then
          spritesAt s (s.peek 0xFF40) (s.backgroundStage.bgIndex.getD x 0) s.ly x
        else none).elim (pixel s.backgroundStage x s.ly) (shade s.params.palette) := by
  have hparams : s.backgroundStage.params = s.params := by rw [State.backgroundStage_eq]
  rw [State.renderScanline_of_visible hly]
  split
  · rw [pixel_spritePass (State.backgroundStage_screenShaped hs) _ hx hly, spritesAt_backgroundStage, hparams]
  · rfl

theorem pixel_renderScanline_other {s : State} {y : Nat} (h : y ≠ s.ly) (x : Nat) :
    pixel s.renderScanline x y = pixel s x y := by
  by_cases hly : s.ly < 144
  · rw [State.renderScanline_of_visible hly]
    split
    · exact (pixel_spritePass_other h _ _ x).trans (pixel_backgroundStage_other h x)
    · exact pixel_backgroundStage_other h x
  · rw [State.renderScanline_of_hidden (not_lt.mp hly)]

theorem State.backgroundStage_of_disabled {s : State} (h : (s.peek 0xFF40).getLsbD 0 = false) :
    s.backgroundStage = { s with bgIndex := List.replicate 160 0 } :=
  if_neg (Bool.eq_false_iff.mp h)

theorem State.renderScanline_fb_of_disabled {s : State} (hbg : (s.peek 0xFF40).getLsbD 0 = false)
    (hsprites : (s.peek 0xFF40).getLsbD 1 = false) : s.renderScanline.fb = s.fb := by
  by_cases hly : s.ly < 144
  · rw [State.renderScanline_of_visible hly, if_neg (Bool.eq_false_iff.mp hsprites),
      State.backgroundStage_of_disabled hbg]
  · rw [State.renderScanline_of_hidden (not_lt.mp hly)]

/-- Settles O53: a pass stores the row of LY, and the sprite pass keeps bg_index. -/
theorem renderChangesOneRow : Obligations.RenderChangesOneRow := by
  intro s hs
  refine ⟨s.renderScanline_eq, fun x y hy => pixel_renderScanline_other hy x, State.renderScanline_of_hidden,
    fun hly hbg => ?_, State.renderScanline_fb_of_disabled⟩
  rw [State.renderScanline_bgIndex hly, State.backgroundStage_of_disabled hbg]

/-- Settles O54: with the sprites disabled a render is its background stage. -/
theorem backgroundPassDrawsTheMap : Obligations.BackgroundPassDrawsTheMap := by
  intro s x hs hly hx hbg
  refine ⟨?_, fun hsprites => ?_⟩
  · rw [State.renderScanline_bgIndex hly, State.backgroundStage_bgIndex s hx, if_pos hbg]
  · rw [pixel_renderScanline hs hx hly, hsprites, pixel_backgroundStage hs hx hly, if_pos hbg]
    rfl

/-- Settles O56: the pass draws the kept entries from the last to the first, over the background stage. -/
theorem highestPrioritySpriteRemains : Obligations.HighestPrioritySpriteRemains := by
  refine ⟨fun s lcdc x y hs hx hy => ?_, fun s x hs hly hx => ⟨?_, ?_⟩⟩
  · rw [pixel_spritePass hs lcdc hx hy]
    cases spritesAt s lcdc (s.bgIndex.getD x 0) y x <;> rfl
  · rw [State.renderScanline_bgIndex hly, State.backgroundStage_bgIndex s hx]
  · rw [pixel_renderScanline hs hx hly, State.backgroundStage_bgIndex s hx, pixel_backgroundStage hs hx hly]
    by_cases hsprites : (s.peek 0xFF40).getLsbD 1 = true
    · simp only [if_pos hsprites]
      generalize spritesAt _ _ _ _ _ = drawn
      cases drawn with
      | none => split <;> rfl
      | some ci => rfl
    · simp only [if_neg hsprites]
      split <;> rfl

end Sys2Proof.Machine
end

section
/-! PROOFS. The end of a run (70_reset_and_hazards.md R201): the self-loop runs as JR -2 to its own address, IME
is clear, so the interrupt check is idle, and the PPU and the requests write no more of memory than IF, STAT and
LY. -/

namespace Sys2Proof.Machine

open Sys2Proof.Spec

/-- The CPU's state that a claim about the end of a run may read, and the fault record (R201). -/
def State.endView (s : State) : (Reg8 → Byte) × Byte × Word × Word × Bool × Bool × Option FaultRecord :=
  (s.reg8, s.f, s.sp, s.pc, s.ime, s.prevIme, s.fault)

theorem State.ppuStep_endView (s : State) (c : Nat) : (s.ppuStep c).endView = s.endView := by
  rw [State.ppuStep_eq]
  rfl

theorem State.externalRequests_endView (s : State) : s.externalRequests.endView = s.endView := rfl

theorem jumped_self_endView (op : Byte) (s : State) : (jumped op s.pc s).endView = s.endView := rfl

/-- The PPU step and the requests leave every byte but IF, STAT and LY. -/
theorem State.peek_externalRequests_ppuStep {x : Word} (h : ¬ rewritten x) (s : State) (c : Nat) :
    (s.ppuStep c).externalRequests.peek x = s.peek x := by
  obtain ⟨hif, hstat, hly⟩ : x ≠ ifAddr ∧ x ≠ statAddr ∧ x ≠ lyAddr := by
    rwa [rewritten, not_or, not_or] at h
  exact (State.peek_externalRequests_other hif _).trans (State.peek_ppuStep_other hif hstat hly s c)

/-- With IME clear an iteration ends without an interrupt. -/
theorem iterationEnd_of_ime_clear {t : State} (hfault : t.fault = none) (hime : t.ime = false) (i : Instr) :
    iterationEnd i t = (t.ppuStep (cyclesOf t.params i.opcode)).externalRequests := by
  have hidle : (t.ppuStep (cyclesOf t.params i.opcode)).externalRequests.ime = false := by
    rw [State.externalRequests_eq, State.ppuStep_eq]
    exact hime
  calc iterationEnd i t
      = (t.ppuStep (cyclesOf t.params i.opcode)).externalRequests.handleInterrupts :=
        State.finishIteration_of_no_fault hfault i
    _ = _ := State.handleInterrupts_of_idle (by simp [hidle])

theorem plain_of_not_gated {s : State} {x : Word} (hgate : gated x = false) (hx : x ∉ s.params.deviceAddrs) :
    plain s x :=
  ⟨by simp [State.blocked, hgate], hx⟩

/-- JR -2 jumps to its own address (43_control.md R151). -/
theorem exec_jr_self (s : State) : exec (.jrE8 0xFE) s = .next (jumped 0x18 s.pc s) := by
  obtain ⟨-, -, -, hjr, -⟩ := absoluteAndRelativeJumps
  have hback : s.pc + 2 + (0xFE : Byte).signExtend 16 = s.pc := by
    rw [BitVec.add_assoc]
    exact BitVec.add_zero s.pc
  exact ((hjr 0xFE).2.2 s).trans (congrArg (fun x => Host.Outcome.next (jumped 0x18 x s)) hback)

/-- A step from an ended run takes the self-loop; then the PPU steps and the requests are drawn. -/
theorem step_of_ended {s : State} (hs : s.ended) (hpc : s.pc ∉ s.params.deviceAddrs)
    (hpc' : s.pc + 1 ∉ s.params.deviceAddrs) :
    step s = .next ((jumped 0x18 s.pc s).ppuStep (cyclesOf s.params 0x18)).externalRequests := by
  obtain ⟨hfault, hime, hgate, hgate', hop, hoffset⟩ := hs
  have hbytes : fetchBytes (encode (.jrE8 0xFE)).length s.pc s = (encode (.jrE8 0xFE), s) := by
    change fetchBytes 2 s.pc s = ([0x18, 0xFE], s)
    simp only [fetchBytes, State.memRead_of_plain (plain_of_not_gated hgate hpc),
      State.memRead_of_plain (plain_of_not_gated hgate' hpc'), hop, hoffset]
  rw [step_of_fetchBytes hfault (fun h => absurd h.1 (by decide)) hbytes (exec_jr_self s),
    iterationEnd_of_ime_clear (t := jumped 0x18 s.pc s) hfault hime]
  rfl

/-- Whether a run has ended depends on the view of the CPU and the two bytes of the self-loop alone. -/
theorem State.ended_of_endView_eq {s t : State} (hs : s.ended) (hview : t.endView = s.endView)
    (hop : t.peek s.pc = s.peek s.pc) (hoffset : t.peek (s.pc + 1) = s.peek (s.pc + 1)) : t.ended := by
  simp only [State.endView, Prod.mk.injEq] at hview
  obtain ⟨-, -, -, hpc, hime, -, hfault⟩ := hview
  simpa only [State.ended, hpc, hime, hfault, hop, hoffset] using hs

/-- Settles O60: the self-loop and the other agents of the iteration keep the view of the CPU and every byte that is
not rewritten, the two bytes of the loop among them. -/
theorem anEndedRunStaysEnded : Obligations.AnEndedRunStaysEnded := by
  intro s hs hpc hpc' hkept hkept'
  have hview : ((jumped 0x18 s.pc s).ppuStep (cyclesOf s.params 0x18)).externalRequests.endView = s.endView :=
    (State.externalRequests_endView _).trans ((State.ppuStep_endView _ _).trans (jumped_self_endView _ s))
  have hpeek : ∀ x, ¬ rewritten x →
      ((jumped 0x18 s.pc s).ppuStep (cyclesOf s.params 0x18)).externalRequests.peek x = s.peek x :=
    fun x hx => State.peek_externalRequests_ppuStep hx (jumped 0x18 s.pc s) _
  have hended := State.ended_of_endView_eq hs hview (hpeek _ hkept) (hpeek _ hkept')
  simp only [State.endView, Prod.mk.injEq] at hview
  obtain ⟨hreg, hf, hsp, hpcEq, -, hprev, -⟩ := hview
  exact ⟨_, step_of_ended hs hpc hpc', hended, congrFun hreg, hf, hsp, hpcEq, hprev, hpeek⟩

end Sys2Proof.Machine
end
